-- ==== Sys2Proof/Word.lean ====
section
/-! DEFINITION. The word types of the core: one bit and one byte. -/

namespace Sys2Proof

/-- One bit, or the level of a line: `true` is 1, the high (released, idle) level (R9, R10). -/
abbrev Bit := Bool

/-- One byte, unsigned; bit 0 is the least significant (R9). -/
abbrev Byte := BitVec 8

/- Two of the spec's values are written `Nat`. A diagnostic counter of R34: that it fits in `CTR_WIDTH` bits, whatever the
configuration makes that width, is part of the invariant (R8, log 18). `Time` of R11: a natural number of `TIME_UNIT`s
since reset, unbounded, with no wrap-around. -/

end Sys2Proof
end

