-- ==== Sys2Proof/Config.lean ====
section
/-! DEFINITION. The parameters of the core (R8): the record `Cfg`, which every shared operation takes as an
argument, and one opaque constant for each parameter that R8 marks `OPEN`. The values the spec decides stand in
Machine/Params.lean. -/

namespace Sys2Proof

/-- `SAMPLING_MODE`: edge-interrupt sampling or fixed-rate timer sampling (R8, D36). -/
inductive SamplingMode where
  | edge
  | timer
deriving DecidableEq, Repr, Inhabited

/-- `XT_FRAME_BITS`: an XT frame has 9 or 10 bits (R8, D41). -/
inductive XtFrameBits where
  | nine
  | ten
deriving DecidableEq, Repr, Inhabited

/-- `OVERFLOW_POLICY`: the spec decides drop-newest and writes its rules for it only (D5, U1). -/
inductive OverflowPolicy where
  | dropNewest
deriving DecidableEq, Repr, Inhabited

/-- The record `Cfg` of R8. It is fixed at build time and is not state (R16, R37). -/
structure Cfg where
  samplingMode : SamplingMode
  /-- Duration of one unit of `Time`, in nanoseconds. -/
  timeUnit : Nat
  queueCap : Nat
  overflowPolicy : OverflowPolicy
  atBitTimeout : Nat
  atReqHold : Nat
  atAckTimeout : Nat
  cmdMaxAttempts : Nat
  cmdQCap : Nat
  xtFrameBits : XtFrameBits
  xtBitPeriod : Nat
  xtClkLow : Nat
  xtInhibitMaxWait : Nat
  /-- The Translation Table: page (`ext`), break, code (R90). -/
  xlat : Bit → Bit → Byte → Option (List Byte)
  xlatMaxOut : Nat
  cmdSetLeds : Byte
  cmdReset : Byte
  indMask : Byte
  ctrWidth : Nat
  tickPeriod : Nat
  lateEdgeRestarts : Bool

namespace Config

/-- `SAMPLING_MODE`, `OPEN` (D36). -/
opaque samplingMode : SamplingMode

/-- `TIME_UNIT` in nanoseconds, `OPEN` (D37). -/
opaque timeUnit : Nat

/-- `AT_BIT_TIMEOUT`, `OPEN` (D38). -/
opaque atBitTimeout : Nat

/-- `AT_REQ_HOLD`, `OPEN` (D39). -/
opaque atReqHold : Nat

/-- `AT_ACK_TIMEOUT`, `OPEN` (D40). -/
opaque atAckTimeout : Nat

/-- `XT_FRAME_BITS`, `OPEN`, one of 9 or 10 (D41). -/
opaque xtFrameBits : XtFrameBits

/-- `XT_BIT_PERIOD`, `OPEN` (D42). -/
opaque xtBitPeriod : Nat

/-- `XT_CLK_LOW`, `OPEN`; no rule depends on it (D43). -/
opaque xtClkLow : Nat

/-- `XT_INHIBIT_MAX_WAIT`, `OPEN` (D44). -/
opaque xtInhibitMaxWait : Nat

/-- `TICK_PERIOD`, `OPEN`; no rule depends on it (D45, R296). -/
opaque tickPeriod : Nat

end Config

/-- What every admissible Translation Table satisfies: no entry for a prefix byte (R86, R98, D19, V3); from one to
`XLAT_MAX_OUT` bytes in every entry (R8, R90); R91 (a), (b), (c); and R91 (d) as its decision D19 gives it: total on its
keys for both values of `brk`, the break output is the make output with bit 7 set in every byte, and make bytes have bit 7
clear. -/
def Cfg.XlatAdmissible (c : Cfg) : Prop :=
  (∀ ext brk : Bit, c.xlat ext brk 0xE0#8 = none ∧ c.xlat ext brk 0xF0#8 = none) ∧
  (∀ (ext brk : Bit) (b : Byte) (xs : List Byte), c.xlat ext brk b = some xs →
    1 ≤ xs.length ∧ xs.length ≤ c.xlatMaxOut) ∧
  (c.xlat false false 0x1C#8 = some [0x1E#8] ∧ c.xlat false true 0x1C#8 = some [0x9E#8]) ∧
  (∀ (b : Byte) (xs : List Byte), c.xlat false false b = some xs →
    ∃ m, xs = [m] ∧ c.xlat false true b = some [m ||| 0x80#8]) ∧
  (∃ x xs, c.xlat true false 0x75#8 = some (x :: xs)) ∧
  (∀ (ext : Bit) (b : Byte), (c.xlat ext true b).isSome = (c.xlat ext false b).isSome) ∧
  (∀ (ext : Bit) (b : Byte) (xs : List Byte), c.xlat ext false b = some xs →
    c.xlat ext true b = some (xs.map (· ||| 0x80#8)) ∧ ∀ m ∈ xs, m.getLsbD 7 = false)

/-- The constraints R8 and the open parameters D36 to D45 put on `Cfg` (a statement that needs one takes it as a
premise; no rule of the model depends on them). -/
def Cfg.Admissible (c : Cfg) : Prop :=
  0 < c.timeUnit ∧ 1 ≤ c.queueCap ∧ 0 < c.atBitTimeout ∧ 100000 ≤ c.atReqHold * c.timeUnit ∧
  0 < c.atAckTimeout ∧ 1 ≤ c.cmdMaxAttempts ∧ 1 ≤ c.cmdQCap ∧ 0 < c.xtBitPeriod ∧
  c.xtClkLow < c.xtBitPeriod ∧ 0 < c.xtInhibitMaxWait ∧ 1 ≤ c.xlatMaxOut ∧ 1 ≤ c.ctrWidth ∧
  c.XlatAdmissible

end Sys2Proof
end

