-- ==== Sys2Proof/Machine/Flags.lean ====
section
/-! DEFINITION. Every flag computation of the core: odd parity, the parity check, the lateness test and the
saturating counter. -/

namespace Sys2Proof.Machine

/-- The exclusive-or of the eight bits of a byte (R85). -/
def xorBits (v : Byte) : Bit :=
  v.getLsbD 0 ^^ v.getLsbD 1 ^^ v.getLsbD 2 ^^ v.getLsbD 3 ^^
  v.getLsbD 4 ^^ v.getLsbD 5 ^^ v.getLsbD 6 ^^ v.getLsbD 7

/-- `P(v)`: 1 when the number of ones of `v` is even (R85). -/
def oddParity (v : Byte) : Bit := true ^^ xorBits v

/-- A received frame with accumulated exclusive-or `acc` and parity bit `p` passes the check exactly when
`acc xor p = 1` (R85, R134). -/
def parityPasses (acc p : Bit) : Bool := acc ^^ p

/-- A deadline `D` has expired at time `t` exactly when `t > D`; `none` never expires (R11, R25). -/
def expired (deadline : Option Nat) (ts : Nat) : Bool :=
  match deadline with
  | none => false
  | some d => decide (d < ts)

/-- `min(x + 1, 2^CTR_WIDTH - 1)` for a counter of `width` bits (R242). -/
def saturatingSucc (width : Nat) (x : Nat) : Nat := min (x + 1) (2 ^ width - 1)

end Sys2Proof.Machine
end

