-- ==== Sys2Proof/Syntax.lean ====
section
/-! DEFINITION. The syntax of the core: its operations and encodings (one constructor of `Instr` per row of
spec/opcode_table.json), the events of R13, the encoded words of 30_encoding.md, and what the environment can
deliver next. -/

namespace Sys2Proof

/-- The two buses (R14). -/
inductive Bus where
  | atBus
  | xtBus
deriving DecidableEq, Repr, Inhabited

/-- The protocol of a Frame (R38); every Frame in the core has `proto = AT` (D31). -/
inductive Proto where
  | atProto
  | xtProto
deriving DecidableEq, Repr, Inhabited

/-- A Frame (R38). -/
structure Frame where
  proto : Proto
  payload : Byte
  parity : Bit
  valid : Bit
deriving DecidableEq, Repr, Inhabited

/-- The kind of a Command (R41). -/
inductive CommandKind where
  | reset
  | setLeds
deriving DecidableEq, Repr, Inhabited

/-- A Command: its kind and the bytes still to be delivered, which are never empty (R41), so the byte in
flight is a field of its own. -/
structure Command where
  kind : CommandKind
  first : Byte
  rest : List Byte
deriving DecidableEq, Repr, Inhabited

/-- `bytes` of R41. -/
def Command.bytes (k : Command) : List Byte := k.first :: k.rest

/-- One entry of the default Translation Table: the page, the AT code and the XT make byte (R92, R93). -/
structure KeyRow where
  ext : Bit
  code : Byte
  make : Byte
deriving DecidableEq, Repr, Inhabited

/-- The operations and encodings of the core: one constructor per row of spec/opcode_table.json, in the
table's order. -/
inductive Instr where
  /-- `LINK.ON_EDGE` (R110). -/
  | linkOnEdge (level data : Bit) (ts : Nat)
  /-- `LINK.SEND_BIT` (R111). -/
  | linkSendBit (bus : Bus) (value : Bit)
  /-- `LINK.IS_INHIBITED` (R112); `clkIn` is the level of that bus's clock line carried by the event being handled. -/
  | linkIsInhibited (bus : Bus) (clkIn : Bit)
  /-- `LINK.TICK_SAMPLE` (R113). -/
  | linkTickSample (atClk atData xtClk : Bit) (ts : Nat)
  /-- `LINK.XT_EDGE` (R114). -/
  | linkXtEdge (level : Bit) (ts : Nat)
  /-- `RX.START` (R131). -/
  | rxStart (data : Bit) (ts : Nat)
  /-- `RX.DATA` (R132). -/
  | rxData (i : Fin 8) (data : Bit) (ts : Nat)
  /-- `RX.PARITY` (R133). -/
  | rxParity (data : Bit) (ts : Nat)
  /-- `RX.STOP` (R134). -/
  | rxStop (data : Bit) (ts : Nat)
  /-- `RX.TIMEOUT` (R135). -/
  | rxTimeout (ts : Nat)
  /-- `TX.REQUEST` (R151). -/
  | txRequest (atClk : Bit) (ts : Nat)
  /-- `TX.RELEASE` (R152). -/
  | txRelease (ts : Nat)
  /-- `TX.HOLD_EDGE` (R153). -/
  | txHoldEdge
  /-- `TX.BIT` (R154). -/
  | txBit (i : Fin 10) (ts : Nat)
  /-- `TX.ACK` (R155). -/
  | txAck (data : Bit) (ts : Nat)
  /-- `TX.TIMEOUT` (R156). -/
  | txTimeout (ts : Nat)
  /-- `XT.LOAD` (R171). -/
  | xtLoad (b : Byte)
  /-- `XT.STEP` (R172). -/
  | xtStep (xtClk : Bit) (ts : Nat)
  /-- `XL.PREFIX_E0` (R191). -/
  | xlPrefixE0
  /-- `XL.PREFIX_F0` (R192). -/
  | xlPrefixF0
  /-- `XL.DATA` (R193). -/
  | xlData (b : Byte) (xs : List Byte)
  /-- `XL.UNKNOWN` (R194). -/
  | xlUnknown (b : Byte)
  /-- `BR.SET_INDICATORS` (R200). -/
  | brSetIndicators (mask : Byte)
  /-- `BR.RESET` (R201). -/
  | brReset
  /-- `BR.SERVICE` (R202). -/
  | brService (atClk : Bit) (ts : Nat)
  /-- `Q.PUSH` (R220). -/
  | qPush (f : Frame)
  /-- `Q.POP` (R221). -/
  | qPop
  /-- `DISPATCH.PASS` (R226). -/
  | dispatchPass (atClk atData xtClk : Bit) (ts : Nat)
  /-- `SYS.RESET` (R280). -/
  | sysReset
  /-- `AT_RX_FRAME` (R81): the eleven falling edges of the frame of `v`, at the given times. -/
  | atRxFrame (v : Byte) (times : List Nat)
  /-- `AT_TX_FRAME` (R82): the request at `tReq`, the release at `tRel` and the keyboard's falling edges. -/
  | atTxFrame (v : Byte) (tReq tRel : Nat) (edges : List (Bit × Nat))
  /-- `XT_FRAME9` (R83): `transmit(v)` over the given passes (XT clock level and time of each). -/
  | xtFrame9 (v : Byte) (passes : List (Bit × Nat))
  /-- `XT_FRAME10` (R84): `transmit(v)` over the given passes (XT clock level and time of each). -/
  | xtFrame10 (v : Byte) (passes : List (Bit × Nat))
  /-- `PREFIX_E0` (R191). -/
  | prefixE0
  /-- `PREFIX_F0` (R192). -/
  | prefixF0
  /-- `CMD_SET_LEDS` (R89). -/
  | cmdSetLeds
  /-- `CMD_RESET` (R89). -/
  | cmdReset
  /-- `XLAT.PLAIN.F9` (R92). -/
  | xlatPlainF9
  /-- `XLAT.PLAIN.F5` (R92). -/
  | xlatPlainF5
  /-- `XLAT.PLAIN.F3` (R92). -/
  | xlatPlainF3
  /-- `XLAT.PLAIN.F1` (R92). -/
  | xlatPlainF1
  /-- `XLAT.PLAIN.F2` (R92). -/
  | xlatPlainF2
  /-- `XLAT.PLAIN.F12` (R92). -/
  | xlatPlainF12
  /-- `XLAT.PLAIN.F10` (R92). -/
  | xlatPlainF10
  /-- `XLAT.PLAIN.F8` (R92). -/
  | xlatPlainF8
  /-- `XLAT.PLAIN.F6` (R92). -/
  | xlatPlainF6
  /-- `XLAT.PLAIN.F4` (R92). -/
  | xlatPlainF4
  /-- `XLAT.PLAIN.Tab` (R92). -/
  | xlatPlainTab
  /-- `XLAT.PLAIN.Backquote` (R92). -/
  | xlatPlainBackquote
  /-- `XLAT.PLAIN.LAlt` (R92). -/
  | xlatPlainLAlt
  /-- `XLAT.PLAIN.LShift` (R92). -/
  | xlatPlainLShift
  /-- `XLAT.PLAIN.LCtrl` (R92). -/
  | xlatPlainLCtrl
  /-- `XLAT.PLAIN.Q` (R92). -/
  | xlatPlainQ
  /-- `XLAT.PLAIN.1` (R92). -/
  | xlatPlain1
  /-- `XLAT.PLAIN.Z` (R92). -/
  | xlatPlainZ
  /-- `XLAT.PLAIN.S` (R92). -/
  | xlatPlainS
  /-- `XLAT.PLAIN.A` (R92). -/
  | xlatPlainA
  /-- `XLAT.PLAIN.W` (R92). -/
  | xlatPlainW
  /-- `XLAT.PLAIN.2` (R92). -/
  | xlatPlain2
  /-- `XLAT.PLAIN.C` (R92). -/
  | xlatPlainC
  /-- `XLAT.PLAIN.X` (R92). -/
  | xlatPlainX
  /-- `XLAT.PLAIN.D` (R92). -/
  | xlatPlainD
  /-- `XLAT.PLAIN.E` (R92). -/
  | xlatPlainE
  /-- `XLAT.PLAIN.4` (R92). -/
  | xlatPlain4
  /-- `XLAT.PLAIN.3` (R92). -/
  | xlatPlain3
  /-- `XLAT.PLAIN.Space` (R92). -/
  | xlatPlainSpace
  /-- `XLAT.PLAIN.V` (R92). -/
  | xlatPlainV
  /-- `XLAT.PLAIN.F` (R92). -/
  | xlatPlainF
  /-- `XLAT.PLAIN.T` (R92). -/
  | xlatPlainT
  /-- `XLAT.PLAIN.R` (R92). -/
  | xlatPlainR
  /-- `XLAT.PLAIN.5` (R92). -/
  | xlatPlain5
  /-- `XLAT.PLAIN.N` (R92). -/
  | xlatPlainN
  /-- `XLAT.PLAIN.B` (R92). -/
  | xlatPlainB
  /-- `XLAT.PLAIN.H` (R92). -/
  | xlatPlainH
  /-- `XLAT.PLAIN.G` (R92). -/
  | xlatPlainG
  /-- `XLAT.PLAIN.Y` (R92). -/
  | xlatPlainY
  /-- `XLAT.PLAIN.6` (R92). -/
  | xlatPlain6
  /-- `XLAT.PLAIN.M` (R92). -/
  | xlatPlainM
  /-- `XLAT.PLAIN.J` (R92). -/
  | xlatPlainJ
  /-- `XLAT.PLAIN.U` (R92). -/
  | xlatPlainU
  /-- `XLAT.PLAIN.7` (R92). -/
  | xlatPlain7
  /-- `XLAT.PLAIN.8` (R92). -/
  | xlatPlain8
  /-- `XLAT.PLAIN.Comma` (R92). -/
  | xlatPlainComma
  /-- `XLAT.PLAIN.K` (R92). -/
  | xlatPlainK
  /-- `XLAT.PLAIN.I` (R92). -/
  | xlatPlainI
  /-- `XLAT.PLAIN.O` (R92). -/
  | xlatPlainO
  /-- `XLAT.PLAIN.0` (R92). -/
  | xlatPlain0
  /-- `XLAT.PLAIN.9` (R92). -/
  | xlatPlain9
  /-- `XLAT.PLAIN.Period` (R92). -/
  | xlatPlainPeriod
  /-- `XLAT.PLAIN.Slash` (R92). -/
  | xlatPlainSlash
  /-- `XLAT.PLAIN.L` (R92). -/
  | xlatPlainL
  /-- `XLAT.PLAIN.Semicolon` (R92). -/
  | xlatPlainSemicolon
  /-- `XLAT.PLAIN.P` (R92). -/
  | xlatPlainP
  /-- `XLAT.PLAIN.Minus` (R92). -/
  | xlatPlainMinus
  /-- `XLAT.PLAIN.Quote` (R92). -/
  | xlatPlainQuote
  /-- `XLAT.PLAIN.LBracket` (R92). -/
  | xlatPlainLBracket
  /-- `XLAT.PLAIN.Equal` (R92). -/
  | xlatPlainEqual
  /-- `XLAT.PLAIN.CapsLock` (R92). -/
  | xlatPlainCapsLock
  /-- `XLAT.PLAIN.RShift` (R92). -/
  | xlatPlainRShift
  /-- `XLAT.PLAIN.Enter` (R92). -/
  | xlatPlainEnter
  /-- `XLAT.PLAIN.RBracket` (R92). -/
  | xlatPlainRBracket
  /-- `XLAT.PLAIN.Backslash` (R92). -/
  | xlatPlainBackslash
  /-- `XLAT.PLAIN.Iso102` (R92). -/
  | xlatPlainIso102
  /-- `XLAT.PLAIN.Backspace` (R92). -/
  | xlatPlainBackspace
  /-- `XLAT.PLAIN.KP1` (R92). -/
  | xlatPlainKP1
  /-- `XLAT.PLAIN.KP4` (R92). -/
  | xlatPlainKP4
  /-- `XLAT.PLAIN.KP7` (R92). -/
  | xlatPlainKP7
  /-- `XLAT.PLAIN.KP0` (R92). -/
  | xlatPlainKP0
  /-- `XLAT.PLAIN.KPDot` (R92). -/
  | xlatPlainKPDot
  /-- `XLAT.PLAIN.KP2` (R92). -/
  | xlatPlainKP2
  /-- `XLAT.PLAIN.KP5` (R92). -/
  | xlatPlainKP5
  /-- `XLAT.PLAIN.KP6` (R92). -/
  | xlatPlainKP6
  /-- `XLAT.PLAIN.KP8` (R92). -/
  | xlatPlainKP8
  /-- `XLAT.PLAIN.Esc` (R92). -/
  | xlatPlainEsc
  /-- `XLAT.PLAIN.NumLock` (R92). -/
  | xlatPlainNumLock
  /-- `XLAT.PLAIN.F11` (R92). -/
  | xlatPlainF11
  /-- `XLAT.PLAIN.KPPlus` (R92). -/
  | xlatPlainKPPlus
  /-- `XLAT.PLAIN.KP3` (R92). -/
  | xlatPlainKP3
  /-- `XLAT.PLAIN.KPMinus` (R92). -/
  | xlatPlainKPMinus
  /-- `XLAT.PLAIN.KPStar` (R92). -/
  | xlatPlainKPStar
  /-- `XLAT.PLAIN.KP9` (R92). -/
  | xlatPlainKP9
  /-- `XLAT.PLAIN.ScrollLock` (R92). -/
  | xlatPlainScrollLock
  /-- `XLAT.PLAIN.F7` (R92). -/
  | xlatPlainF7
  /-- `XLAT.PLAIN.AltSysRq` (R92). -/
  | xlatPlainAltSysRq
  /-- `XLAT.EXT.RAlt` (R93). -/
  | xlatExtRAlt
  /-- `XLAT.EXT.FakeLShift` (R93). -/
  | xlatExtFakeLShift
  /-- `XLAT.EXT.RCtrl` (R93). -/
  | xlatExtRCtrl
  /-- `XLAT.EXT.LGui` (R93). -/
  | xlatExtLGui
  /-- `XLAT.EXT.RGui` (R93). -/
  | xlatExtRGui
  /-- `XLAT.EXT.Apps` (R93). -/
  | xlatExtApps
  /-- `XLAT.EXT.KPSlash` (R93). -/
  | xlatExtKPSlash
  /-- `XLAT.EXT.FakeRShift` (R93). -/
  | xlatExtFakeRShift
  /-- `XLAT.EXT.KPEnter` (R93). -/
  | xlatExtKPEnter
  /-- `XLAT.EXT.End` (R93). -/
  | xlatExtEnd
  /-- `XLAT.EXT.Left` (R93). -/
  | xlatExtLeft
  /-- `XLAT.EXT.Home` (R93). -/
  | xlatExtHome
  /-- `XLAT.EXT.Insert` (R93). -/
  | xlatExtInsert
  /-- `XLAT.EXT.Delete` (R93). -/
  | xlatExtDelete
  /-- `XLAT.EXT.Down` (R93). -/
  | xlatExtDown
  /-- `XLAT.EXT.Right` (R93). -/
  | xlatExtRight
  /-- `XLAT.EXT.Up` (R93). -/
  | xlatExtUp
  /-- `XLAT.EXT.PageDown` (R93). -/
  | xlatExtPageDown
  /-- `XLAT.EXT.PrintScreen` (R93). -/
  | xlatExtPrintScreen
  /-- `XLAT.EXT.PageUp` (R93). -/
  | xlatExtPageUp
  /-- `XLAT.EXT.CtrlBreak` (R93). -/
  | xlatExtCtrlBreak
deriving DecidableEq, Repr

/-- What a `HostReq` event asks for (R13). -/
inductive HostRequest where
  | setIndicators (mask : Byte)
  | reset
deriving DecidableEq, Repr

/-- The event alphabet of R13. A level of an AT line is what the other parties put on it; the core reads 0 while it pulls
the line low itself (R43, `readEvent`, log 30). -/
inductive Event where
  | atEdge (level data : Bit) (ts : Nat)
  | xtEdge (level : Bit) (ts : Nat)
  | tick (atClk atData xtClk : Bit) (ts : Nat)
  | pass (atClk atData xtClk : Bit) (ts : Nat)
  | hostReq (r : HostRequest)
  | reset
deriving DecidableEq, Repr

/-- The wire formats of R80; an XT wire string has the length its `XT_FRAME_BITS` gives (R83, R84). -/
inductive FrameFormat where
  | atRx
  | atTx
  | xt
deriving DecidableEq, Repr

/-- An encoded word with the place it is met in, which the encodings of 30_encoding.md leave outside the bits. -/
inductive Encoded where
  /-- A payload byte the main loop translates while `extended-pending` is `ext` (R86, R90). -/
  | payload (ext : Bit) (b : Byte)
  /-- A command byte of the command bridge (R89). -/
  | command (b : Byte)
  /-- A wire string in order of transmission, first bit first (R9). -/
  | frame (fmt : FrameFormat) (wire : List Bit)
deriving DecidableEq, Repr

/-- The part of a frame's transfer that its bits do not hold: the times of the bus request and of its release,
and the level and time of each keyboard edge or pass (R11, R13). -/
structure Schedule where
  tReq : Nat
  tRel : Nat
  edges : List (Bit × Nat)
deriving DecidableEq, Repr

/-- What the environment delivers next. The event is the `Event` argument of the spec's step function (R13); the
other forms are the model's (log 1, log 6, log 10, log 11). -/
inductive Input where
  | event (e : Event)
  /-- A pass that handlers may interrupt between two of its operations (R72, R226). -/
  | beginPass (atClk atData xtClk : Bit) (ts : Nat)
  /-- The main loop runs its next operation before the next interrupt. -/
  | mainLoop
  /-- A command byte given to the command bridge. -/
  | commandByte (b : Byte)
  /-- The whole transfer of one frame. -/
  | frame (fmt : FrameFormat) (wire : List Bit) (sch : Schedule)
deriving DecidableEq, Repr

end Sys2Proof
end

