-- ==== Sys2Proof/Machine/Operands.lean ====
section
/-! DEFINITION. Operand forms: the bits of a byte in wire order, the wire strings of the frame formats, and the
bit a frame holds at a position. -/

namespace Sys2Proof.Machine

/-- `v` with bit `i` set to `b` (R87: the bit sampled at frame position `i + 1`). -/
def setBit (v : Byte) (i : Nat) (b : Bit) : Byte :=
  if b then v ||| BitVec.twoPow 8 i else v &&& ~~~(BitVec.twoPow 8 i)

/-- The data bits of `v` in order of transmission, least significant first (R9, R61, R62). -/
def dataBits (v : Byte) : List Bit :=
  [v.getLsbD 0, v.getLsbD 1, v.getLsbD 2, v.getLsbD 3, v.getLsbD 4, v.getLsbD 5, v.getLsbD 6, v.getLsbD 7]

/-- The byte whose data bits, least significant first, are the given ones. -/
def byteOfBits (b0 b1 b2 b3 b4 b5 b6 b7 : Bit) : Byte :=
  setBit (setBit (setBit (setBit (setBit (setBit (setBit (setBit 0 0 b0) 1 b1) 2 b2) 3 b3) 4 b4) 5 b5) 6 b6) 7 b7

/-- The wire string of an AT frame, in either direction: `0 abcdefgh p 1` (R81, R82). -/
def atWire (v : Byte) : List Bit := false :: dataBits v ++ [oddParity v, true]

/-- The wire string of a 9-bit XT frame: `1 abcdefgh` (R83). -/
def xtWire9 (v : Byte) : List Bit := true :: dataBits v

/-- The wire string of a 10-bit XT frame: `0 1 abcdefgh` (R84). -/
def xtWire10 (v : Byte) : List Bit := false :: true :: dataBits v

/-- `N = XT_FRAME_BITS` as a number. -/
def xtFrameLen (n : XtFrameBits) : Nat :=
  match n with
  | .nine => 9
  | .ten => 10

/-- `xt_frame_bit(v, p)` of R84. -/
def xtFrameBit (n : XtFrameBits) (v : Byte) (p : Nat) : Bit :=
  match n with
  | .nine => if p = 0 then true else v.getLsbD (p - 1)
  | .ten => if p = 0 then false else if p = 1 then true else v.getLsbD (p - 2)

/-- The two prefix bytes, which are never looked up in the table (R86). -/
def isPrefixByte (b : Byte) : Bool := b == 0xE0#8 || b == 0xF0#8

/-- Times that never decrease (R11). -/
def nondecreasing : List Nat → Bool
  | [] => true
  | [_] => true
  | a :: b :: rest => decide (a ≤ b) && nondecreasing (b :: rest)

end Sys2Proof.Machine
end

