-- ==== Sys2Proof/Machine/Table.lean ====
section
/-! DEFINITION. The default Translation Table (R90, R92, R93): the only stored "program" of the core, which is
never written (R68, R75). All rows but `0x1C` are general knowledge of the spec's writer (G3, G4). -/

namespace Sys2Proof.Machine

/-- The plain page: AT code and XT make byte of the 87 entries of R92, in the spec's order. -/
def plainPage : List (Byte × Byte) :=
  [(0x01#8, 0x43#8), (0x03#8, 0x3F#8), (0x04#8, 0x3D#8), (0x05#8, 0x3B#8), (0x06#8, 0x3C#8),
   (0x07#8, 0x58#8), (0x09#8, 0x44#8), (0x0A#8, 0x42#8), (0x0B#8, 0x40#8), (0x0C#8, 0x3E#8),
   (0x0D#8, 0x0F#8), (0x0E#8, 0x29#8), (0x11#8, 0x38#8), (0x12#8, 0x2A#8), (0x14#8, 0x1D#8),
   (0x15#8, 0x10#8), (0x16#8, 0x02#8), (0x1A#8, 0x2C#8), (0x1B#8, 0x1F#8), (0x1C#8, 0x1E#8),
   (0x1D#8, 0x11#8), (0x1E#8, 0x03#8), (0x21#8, 0x2E#8), (0x22#8, 0x2D#8), (0x23#8, 0x20#8),
   (0x24#8, 0x12#8), (0x25#8, 0x05#8), (0x26#8, 0x04#8), (0x29#8, 0x39#8), (0x2A#8, 0x2F#8)] ++
  [(0x2B#8, 0x21#8), (0x2C#8, 0x14#8), (0x2D#8, 0x13#8), (0x2E#8, 0x06#8), (0x31#8, 0x31#8),
   (0x32#8, 0x30#8), (0x33#8, 0x23#8), (0x34#8, 0x22#8), (0x35#8, 0x15#8), (0x36#8, 0x07#8),
   (0x3A#8, 0x32#8), (0x3B#8, 0x24#8), (0x3C#8, 0x16#8), (0x3D#8, 0x08#8), (0x3E#8, 0x09#8),
   (0x41#8, 0x33#8), (0x42#8, 0x25#8), (0x43#8, 0x17#8), (0x44#8, 0x18#8), (0x45#8, 0x0B#8),
   (0x46#8, 0x0A#8), (0x49#8, 0x34#8), (0x4A#8, 0x35#8), (0x4B#8, 0x26#8), (0x4C#8, 0x27#8),
   (0x4D#8, 0x19#8), (0x4E#8, 0x0C#8), (0x52#8, 0x28#8), (0x54#8, 0x1A#8), (0x55#8, 0x0D#8)] ++
  [(0x58#8, 0x3A#8), (0x59#8, 0x36#8), (0x5A#8, 0x1C#8), (0x5B#8, 0x1B#8), (0x5D#8, 0x2B#8),
   (0x61#8, 0x56#8), (0x66#8, 0x0E#8), (0x69#8, 0x4F#8), (0x6B#8, 0x4B#8), (0x6C#8, 0x47#8),
   (0x70#8, 0x52#8), (0x71#8, 0x53#8), (0x72#8, 0x50#8), (0x73#8, 0x4C#8), (0x74#8, 0x4D#8),
   (0x75#8, 0x48#8), (0x76#8, 0x01#8), (0x77#8, 0x45#8), (0x78#8, 0x57#8), (0x79#8, 0x4E#8),
   (0x7A#8, 0x51#8), (0x7B#8, 0x4A#8), (0x7C#8, 0x37#8), (0x7D#8, 0x49#8), (0x7E#8, 0x46#8),
   (0x83#8, 0x41#8), (0x84#8, 0x54#8)]

/-- The extended page: AT code and XT make byte of the 21 entries of R93, in the spec's order. -/
def extendedPage : List (Byte × Byte) :=
  [(0x11#8, 0x38#8), (0x12#8, 0x2A#8), (0x14#8, 0x1D#8), (0x1F#8, 0x5B#8), (0x27#8, 0x5C#8),
   (0x2F#8, 0x5D#8), (0x4A#8, 0x35#8), (0x59#8, 0x36#8), (0x5A#8, 0x1C#8), (0x69#8, 0x4F#8),
   (0x6B#8, 0x4B#8), (0x6C#8, 0x47#8), (0x70#8, 0x52#8), (0x71#8, 0x53#8), (0x72#8, 0x50#8),
   (0x74#8, 0x4D#8), (0x75#8, 0x48#8), (0x7A#8, 0x51#8), (0x7C#8, 0x37#8), (0x7D#8, 0x49#8),
   (0x7E#8, 0x46#8)]

/-- The make byte a page gives for a code. -/
def lookupMake : List (Byte × Byte) → Byte → Option Byte
  | [], _ => none
  | (code, make) :: rest, b => if code = b then some make else lookupMake rest b

/-- The break output is the make output with bit 7 set (R91 (b), R92, R93). -/
def breakOf (make : Byte) : Byte := make ||| 0x80#8

/-- `XLAT(ext, brk, code)` of the default table (R90, R92, R93). -/
def defaultXlat (ext brk : Bit) (code : Byte) : Option (List Byte) :=
  match lookupMake (if ext then extendedPage else plainPage) code with
  | none => none
  | some make => some [if brk then breakOf make else make]

end Sys2Proof.Machine
end

