-- ==== Sys2Proof/Machine/Params.lean ====
section
/-! DEFINITION. The core's configuration (R8): the values the spec decides or gives as defaults, and the opaque
constants of Config for the parameters it leaves `OPEN`. -/

namespace Sys2Proof.Machine

/-- The configuration of the machine (R8; log 2 for the decided values, log 13 for those from general knowledge). -/
def cfg : Cfg where
  samplingMode := Config.samplingMode
  timeUnit := Config.timeUnit
  queueCap := 16
  overflowPolicy := .dropNewest
  atBitTimeout := Config.atBitTimeout
  atReqHold := Config.atReqHold
  atAckTimeout := Config.atAckTimeout
  cmdMaxAttempts := 3
  cmdQCap := 4
  xtFrameBits := Config.xtFrameBits
  xtBitPeriod := Config.xtBitPeriod
  xtClkLow := Config.xtClkLow
  xtInhibitMaxWait := Config.xtInhibitMaxWait
  xlat := defaultXlat
  xlatMaxOut := 1
  cmdSetLeds := 0xED#8
  cmdReset := 0xFF#8
  indMask := 0x07#8
  ctrWidth := 16
  tickPeriod := Config.tickPeriod
  lateEdgeRestarts := true

end Sys2Proof.Machine
end

