-- ==== Sys2Proof/WellFormed.lean ====
section
/-! DEFINITION. Well-formed instructions: the checks on operands that the types of Syntax.lean do not make. -/

namespace Sys2Proof

open Machine

/-- A frame the receiver can have created: `proto = AT`, `valid = 1`, and the parity bit the payload asks for
(R30, R38, R134). -/
def Frame.wellFormed (f : Frame) : Bool :=
  f.proto == .atProto && f.valid && f.parity == oddParity f.payload

/-- The checks, in a core built with `c`: translated data bytes are no prefix bytes (R86) and an output list has 1 to
`XLAT_MAX_OUT` bytes (R68); a pushed Frame is valid (R220); an AT frame has eleven keyboard edges (R81, R82), and times
never decrease (R11); an XT frame has at least one pass for each of its bits (R173). -/
def Instr.wellFormed (c : Cfg) (i : Instr) : Bool :=
  match i with
  | .xlData b xs => !isPrefixByte b && decide (1 ≤ xs.length) && decide (xs.length ≤ c.xlatMaxOut)
  | .xlUnknown b => !isPrefixByte b
  | .qPush f => f.wellFormed
  | .atRxFrame _ times => decide (times.length = 11) && nondecreasing times
  | .atTxFrame _ tReq tRel edges =>
    decide (edges.length = 11) && nondecreasing (tReq :: tRel :: edges.map Prod.snd)
  | .xtFrame9 _ passes => decide (9 ≤ passes.length) && nondecreasing (passes.map Prod.snd)
  | .xtFrame10 _ passes => decide (10 ≤ passes.length) && nondecreasing (passes.map Prod.snd)
  | _ => true

end Sys2Proof
end

