-- ==== Sys2Proof/Decode.lean ====
section
/-! DEFINITION. The decoder of the encoded words of 30_encoding.md, total and rejecting by name, and after it the
encoder. The 29 operations have no bit encoding (R104): an event and the state tag select them
(Machine/Fetch.lean). -/

namespace Sys2Proof

open Machine

/-- Why the decoder rejects a word. -/
inductive DecodeError where
  /-- A data byte for which the core's table has no row of the opcode table on its page (R95). -/
  | unknownScanCode (b : Byte)
  /-- A byte that is neither of the two command bytes (R89). -/
  | noSuchCommand (b : Byte)
  /-- A wire string whose length is no frame format's (R80). -/
  | badLength (n : Nat)
  /-- A start bit, or a leading bit, of the wrong value (R81 to R84, R97). -/
  | badStartBit
  /-- A stop bit of value 0 (R97). -/
  | badStopBit
  /-- Nine data and parity bits with an even number of ones (R97). -/
  | badParity
deriving DecidableEq, Repr

/-- The codes of the plain page and their entries (R92). -/
def plainKeys : List (Byte × Instr) :=
  [(0x01#8, Instr.xlatPlainF9), (0x03#8, Instr.xlatPlainF5), (0x04#8, Instr.xlatPlainF3),
   (0x05#8, Instr.xlatPlainF1), (0x06#8, Instr.xlatPlainF2), (0x07#8, Instr.xlatPlainF12),
   (0x09#8, Instr.xlatPlainF10), (0x0A#8, Instr.xlatPlainF8), (0x0B#8, Instr.xlatPlainF6),
   (0x0C#8, Instr.xlatPlainF4), (0x0D#8, Instr.xlatPlainTab), (0x0E#8, Instr.xlatPlainBackquote),
   (0x11#8, Instr.xlatPlainLAlt), (0x12#8, Instr.xlatPlainLShift), (0x14#8, Instr.xlatPlainLCtrl),
   (0x15#8, Instr.xlatPlainQ), (0x16#8, Instr.xlatPlain1), (0x1A#8, Instr.xlatPlainZ),
   (0x1B#8, Instr.xlatPlainS), (0x1C#8, Instr.xlatPlainA), (0x1D#8, Instr.xlatPlainW),
   (0x1E#8, Instr.xlatPlain2), (0x21#8, Instr.xlatPlainC), (0x22#8, Instr.xlatPlainX),
   (0x23#8, Instr.xlatPlainD), (0x24#8, Instr.xlatPlainE), (0x25#8, Instr.xlatPlain4),
   (0x26#8, Instr.xlatPlain3), (0x29#8, Instr.xlatPlainSpace), (0x2A#8, Instr.xlatPlainV)] ++
  [(0x2B#8, Instr.xlatPlainF), (0x2C#8, Instr.xlatPlainT), (0x2D#8, Instr.xlatPlainR),
   (0x2E#8, Instr.xlatPlain5), (0x31#8, Instr.xlatPlainN), (0x32#8, Instr.xlatPlainB),
   (0x33#8, Instr.xlatPlainH), (0x34#8, Instr.xlatPlainG), (0x35#8, Instr.xlatPlainY),
   (0x36#8, Instr.xlatPlain6), (0x3A#8, Instr.xlatPlainM), (0x3B#8, Instr.xlatPlainJ),
   (0x3C#8, Instr.xlatPlainU), (0x3D#8, Instr.xlatPlain7), (0x3E#8, Instr.xlatPlain8),
   (0x41#8, Instr.xlatPlainComma), (0x42#8, Instr.xlatPlainK), (0x43#8, Instr.xlatPlainI),
   (0x44#8, Instr.xlatPlainO), (0x45#8, Instr.xlatPlain0), (0x46#8, Instr.xlatPlain9),
   (0x49#8, Instr.xlatPlainPeriod), (0x4A#8, Instr.xlatPlainSlash), (0x4B#8, Instr.xlatPlainL),
   (0x4C#8, Instr.xlatPlainSemicolon), (0x4D#8, Instr.xlatPlainP), (0x4E#8, Instr.xlatPlainMinus),
   (0x52#8, Instr.xlatPlainQuote), (0x54#8, Instr.xlatPlainLBracket), (0x55#8, Instr.xlatPlainEqual)] ++
  [(0x58#8, Instr.xlatPlainCapsLock), (0x59#8, Instr.xlatPlainRShift), (0x5A#8, Instr.xlatPlainEnter),
   (0x5B#8, Instr.xlatPlainRBracket), (0x5D#8, Instr.xlatPlainBackslash), (0x61#8, Instr.xlatPlainIso102),
   (0x66#8, Instr.xlatPlainBackspace), (0x69#8, Instr.xlatPlainKP1), (0x6B#8, Instr.xlatPlainKP4),
   (0x6C#8, Instr.xlatPlainKP7), (0x70#8, Instr.xlatPlainKP0), (0x71#8, Instr.xlatPlainKPDot),
   (0x72#8, Instr.xlatPlainKP2), (0x73#8, Instr.xlatPlainKP5), (0x74#8, Instr.xlatPlainKP6),
   (0x75#8, Instr.xlatPlainKP8), (0x76#8, Instr.xlatPlainEsc), (0x77#8, Instr.xlatPlainNumLock),
   (0x78#8, Instr.xlatPlainF11), (0x79#8, Instr.xlatPlainKPPlus), (0x7A#8, Instr.xlatPlainKP3),
   (0x7B#8, Instr.xlatPlainKPMinus), (0x7C#8, Instr.xlatPlainKPStar), (0x7D#8, Instr.xlatPlainKP9),
   (0x7E#8, Instr.xlatPlainScrollLock), (0x83#8, Instr.xlatPlainF7), (0x84#8, Instr.xlatPlainAltSysRq)]

/-- The codes of the extended page and their entries (R93). -/
def extendedKeys : List (Byte × Instr) :=
  [(0x11#8, Instr.xlatExtRAlt), (0x12#8, Instr.xlatExtFakeLShift), (0x14#8, Instr.xlatExtRCtrl),
   (0x1F#8, Instr.xlatExtLGui), (0x27#8, Instr.xlatExtRGui), (0x2F#8, Instr.xlatExtApps),
   (0x4A#8, Instr.xlatExtKPSlash), (0x59#8, Instr.xlatExtFakeRShift), (0x5A#8, Instr.xlatExtKPEnter),
   (0x69#8, Instr.xlatExtEnd), (0x6B#8, Instr.xlatExtLeft), (0x6C#8, Instr.xlatExtHome),
   (0x70#8, Instr.xlatExtInsert), (0x71#8, Instr.xlatExtDelete), (0x72#8, Instr.xlatExtDown),
   (0x74#8, Instr.xlatExtRight), (0x75#8, Instr.xlatExtUp), (0x7A#8, Instr.xlatExtPageDown),
   (0x7C#8, Instr.xlatExtPrintScreen), (0x7D#8, Instr.xlatExtPageUp), (0x7E#8, Instr.xlatExtCtrlBreak)]

/-- The entry of a page for a code. -/
def lookupKey : List (Byte × Instr) → Byte → Option Instr
  | [], _ => none
  | (code, i) :: rest, b => if code = b then some i else lookupKey rest b

/-- The Translation Table entry an instruction is (R92, R93). -/
def keyRow (i : Instr) : Option KeyRow :=
  match i with
  | .xlatPlainF9 => some ⟨false, 0x01#8, 0x43#8⟩
  | .xlatPlainF5 => some ⟨false, 0x03#8, 0x3F#8⟩
  | .xlatPlainF3 => some ⟨false, 0x04#8, 0x3D#8⟩
  | .xlatPlainF1 => some ⟨false, 0x05#8, 0x3B#8⟩
  | .xlatPlainF2 => some ⟨false, 0x06#8, 0x3C#8⟩
  | .xlatPlainF12 => some ⟨false, 0x07#8, 0x58#8⟩
  | .xlatPlainF10 => some ⟨false, 0x09#8, 0x44#8⟩
  | .xlatPlainF8 => some ⟨false, 0x0A#8, 0x42#8⟩
  | .xlatPlainF6 => some ⟨false, 0x0B#8, 0x40#8⟩
  | .xlatPlainF4 => some ⟨false, 0x0C#8, 0x3E#8⟩
  | .xlatPlainTab => some ⟨false, 0x0D#8, 0x0F#8⟩
  | .xlatPlainBackquote => some ⟨false, 0x0E#8, 0x29#8⟩
  | .xlatPlainLAlt => some ⟨false, 0x11#8, 0x38#8⟩
  | .xlatPlainLShift => some ⟨false, 0x12#8, 0x2A#8⟩
  | .xlatPlainLCtrl => some ⟨false, 0x14#8, 0x1D#8⟩
  | .xlatPlainQ => some ⟨false, 0x15#8, 0x10#8⟩
  | .xlatPlain1 => some ⟨false, 0x16#8, 0x02#8⟩
  | .xlatPlainZ => some ⟨false, 0x1A#8, 0x2C#8⟩
  | .xlatPlainS => some ⟨false, 0x1B#8, 0x1F#8⟩
  | .xlatPlainA => some ⟨false, 0x1C#8, 0x1E#8⟩
  | .xlatPlainW => some ⟨false, 0x1D#8, 0x11#8⟩
  | .xlatPlain2 => some ⟨false, 0x1E#8, 0x03#8⟩
  | .xlatPlainC => some ⟨false, 0x21#8, 0x2E#8⟩
  | .xlatPlainX => some ⟨false, 0x22#8, 0x2D#8⟩
  | .xlatPlainD => some ⟨false, 0x23#8, 0x20#8⟩
  | .xlatPlainE => some ⟨false, 0x24#8, 0x12#8⟩
  | .xlatPlain4 => some ⟨false, 0x25#8, 0x05#8⟩
  | .xlatPlain3 => some ⟨false, 0x26#8, 0x04#8⟩
  | .xlatPlainSpace => some ⟨false, 0x29#8, 0x39#8⟩
  | .xlatPlainV => some ⟨false, 0x2A#8, 0x2F#8⟩
  | .xlatPlainF => some ⟨false, 0x2B#8, 0x21#8⟩
  | .xlatPlainT => some ⟨false, 0x2C#8, 0x14#8⟩
  | .xlatPlainR => some ⟨false, 0x2D#8, 0x13#8⟩
  | .xlatPlain5 => some ⟨false, 0x2E#8, 0x06#8⟩
  | .xlatPlainN => some ⟨false, 0x31#8, 0x31#8⟩
  | .xlatPlainB => some ⟨false, 0x32#8, 0x30#8⟩
  | .xlatPlainH => some ⟨false, 0x33#8, 0x23#8⟩
  | .xlatPlainG => some ⟨false, 0x34#8, 0x22#8⟩
  | .xlatPlainY => some ⟨false, 0x35#8, 0x15#8⟩
  | .xlatPlain6 => some ⟨false, 0x36#8, 0x07#8⟩
  | .xlatPlainM => some ⟨false, 0x3A#8, 0x32#8⟩
  | .xlatPlainJ => some ⟨false, 0x3B#8, 0x24#8⟩
  | .xlatPlainU => some ⟨false, 0x3C#8, 0x16#8⟩
  | .xlatPlain7 => some ⟨false, 0x3D#8, 0x08#8⟩
  | .xlatPlain8 => some ⟨false, 0x3E#8, 0x09#8⟩
  | .xlatPlainComma => some ⟨false, 0x41#8, 0x33#8⟩
  | .xlatPlainK => some ⟨false, 0x42#8, 0x25#8⟩
  | .xlatPlainI => some ⟨false, 0x43#8, 0x17#8⟩
  | .xlatPlainO => some ⟨false, 0x44#8, 0x18#8⟩
  | .xlatPlain0 => some ⟨false, 0x45#8, 0x0B#8⟩
  | .xlatPlain9 => some ⟨false, 0x46#8, 0x0A#8⟩
  | .xlatPlainPeriod => some ⟨false, 0x49#8, 0x34#8⟩
  | .xlatPlainSlash => some ⟨false, 0x4A#8, 0x35#8⟩
  | .xlatPlainL => some ⟨false, 0x4B#8, 0x26#8⟩
  | .xlatPlainSemicolon => some ⟨false, 0x4C#8, 0x27#8⟩
  | .xlatPlainP => some ⟨false, 0x4D#8, 0x19#8⟩
  | .xlatPlainMinus => some ⟨false, 0x4E#8, 0x0C#8⟩
  | .xlatPlainQuote => some ⟨false, 0x52#8, 0x28#8⟩
  | .xlatPlainLBracket => some ⟨false, 0x54#8, 0x1A#8⟩
  | .xlatPlainEqual => some ⟨false, 0x55#8, 0x0D#8⟩
  | .xlatPlainCapsLock => some ⟨false, 0x58#8, 0x3A#8⟩
  | .xlatPlainRShift => some ⟨false, 0x59#8, 0x36#8⟩
  | .xlatPlainEnter => some ⟨false, 0x5A#8, 0x1C#8⟩
  | .xlatPlainRBracket => some ⟨false, 0x5B#8, 0x1B#8⟩
  | .xlatPlainBackslash => some ⟨false, 0x5D#8, 0x2B#8⟩
  | .xlatPlainIso102 => some ⟨false, 0x61#8, 0x56#8⟩
  | .xlatPlainBackspace => some ⟨false, 0x66#8, 0x0E#8⟩
  | .xlatPlainKP1 => some ⟨false, 0x69#8, 0x4F#8⟩
  | .xlatPlainKP4 => some ⟨false, 0x6B#8, 0x4B#8⟩
  | .xlatPlainKP7 => some ⟨false, 0x6C#8, 0x47#8⟩
  | .xlatPlainKP0 => some ⟨false, 0x70#8, 0x52#8⟩
  | .xlatPlainKPDot => some ⟨false, 0x71#8, 0x53#8⟩
  | .xlatPlainKP2 => some ⟨false, 0x72#8, 0x50#8⟩
  | .xlatPlainKP5 => some ⟨false, 0x73#8, 0x4C#8⟩
  | .xlatPlainKP6 => some ⟨false, 0x74#8, 0x4D#8⟩
  | .xlatPlainKP8 => some ⟨false, 0x75#8, 0x48#8⟩
  | .xlatPlainEsc => some ⟨false, 0x76#8, 0x01#8⟩
  | .xlatPlainNumLock => some ⟨false, 0x77#8, 0x45#8⟩
  | .xlatPlainF11 => some ⟨false, 0x78#8, 0x57#8⟩
  | .xlatPlainKPPlus => some ⟨false, 0x79#8, 0x4E#8⟩
  | .xlatPlainKP3 => some ⟨false, 0x7A#8, 0x51#8⟩
  | .xlatPlainKPMinus => some ⟨false, 0x7B#8, 0x4A#8⟩
  | .xlatPlainKPStar => some ⟨false, 0x7C#8, 0x37#8⟩
  | .xlatPlainKP9 => some ⟨false, 0x7D#8, 0x49#8⟩
  | .xlatPlainScrollLock => some ⟨false, 0x7E#8, 0x46#8⟩
  | .xlatPlainF7 => some ⟨false, 0x83#8, 0x41#8⟩
  | .xlatPlainAltSysRq => some ⟨false, 0x84#8, 0x54#8⟩
  | .xlatExtRAlt => some ⟨true, 0x11#8, 0x38#8⟩
  | .xlatExtFakeLShift => some ⟨true, 0x12#8, 0x2A#8⟩
  | .xlatExtRCtrl => some ⟨true, 0x14#8, 0x1D#8⟩
  | .xlatExtLGui => some ⟨true, 0x1F#8, 0x5B#8⟩
  | .xlatExtRGui => some ⟨true, 0x27#8, 0x5C#8⟩
  | .xlatExtApps => some ⟨true, 0x2F#8, 0x5D#8⟩
  | .xlatExtKPSlash => some ⟨true, 0x4A#8, 0x35#8⟩
  | .xlatExtFakeRShift => some ⟨true, 0x59#8, 0x36#8⟩
  | .xlatExtKPEnter => some ⟨true, 0x5A#8, 0x1C#8⟩
  | .xlatExtEnd => some ⟨true, 0x69#8, 0x4F#8⟩
  | .xlatExtLeft => some ⟨true, 0x6B#8, 0x4B#8⟩
  | .xlatExtHome => some ⟨true, 0x6C#8, 0x47#8⟩
  | .xlatExtInsert => some ⟨true, 0x70#8, 0x52#8⟩
  | .xlatExtDelete => some ⟨true, 0x71#8, 0x53#8⟩
  | .xlatExtDown => some ⟨true, 0x72#8, 0x50#8⟩
  | .xlatExtRight => some ⟨true, 0x74#8, 0x4D#8⟩
  | .xlatExtUp => some ⟨true, 0x75#8, 0x48#8⟩
  | .xlatExtPageDown => some ⟨true, 0x7A#8, 0x51#8⟩
  | .xlatExtPrintScreen => some ⟨true, 0x7C#8, 0x37#8⟩
  | .xlatExtPageUp => some ⟨true, 0x7D#8, 0x49#8⟩
  | .xlatExtCtrlBreak => some ⟨true, 0x7E#8, 0x46#8⟩
  | .linkOnEdge _ _ _ | .linkSendBit _ _ | .linkIsInhibited _ _ | .linkTickSample _ _ _ _
  | .linkXtEdge _ _ | .rxStart _ _ | .rxData _ _ _ | .rxParity _ _
  | .rxStop _ _ | .rxTimeout _ | .txRequest _ _ | .txRelease _
  | .txHoldEdge | .txBit _ _ | .txAck _ _ | .txTimeout _
  | .xtLoad _ | .xtStep _ _ | .xlPrefixE0 | .xlPrefixF0
  | .xlData _ _ | .xlUnknown _ | .brSetIndicators _ | .brReset
  | .brService _ _ | .qPush _ | .qPop | .dispatchPass _ _ _ _
  | .sysReset | .atRxFrame _ _ | .atTxFrame _ _ _ _ | .xtFrame9 _ _
  | .xtFrame10 _ _ | .prefixE0 | .prefixF0 | .cmdSetLeds
  | .cmdReset => none

/-- The row is an entry of the core's Translation Table, make and break (R90, R92 to R94). -/
def rowInTable (c : Cfg) (r : KeyRow) : Bool :=
  c.xlat r.ext false r.code == some [r.make] && c.xlat r.ext true r.code == some [breakOf r.make]

/-- The instruction is a table row and that row is an entry of the core's table. -/
def isEntryOf (c : Cfg) (i : Instr) : Bool :=
  match keyRow i with
  | some r => rowInTable c r
  | none => false

/-- The entry a payload byte selects in a core built with `c`: a prefix byte on either page, else the row of the opcode
table for the page and code, if the core's Translation Table has that row (R86, R90, R94, R95). -/
def decodePayload (c : Cfg) (ext : Bit) (b : Byte) : Except DecodeError Instr :=
  if b = 0xE0#8 then .ok .prefixE0
  else if b = 0xF0#8 then .ok .prefixF0
  else match lookupKey (if ext then extendedKeys else plainKeys) b with
    | some i => if isEntryOf c i then .ok i else .error (.unknownScanCode b)
    | none => .error (.unknownScanCode b)

/-- The command a command byte begins; the bytes are the `Cfg` parameters `CMD_SET_LEDS` and `CMD_RESET` (R89). -/
def decodeCommand (c : Cfg) (b : Byte) : Except DecodeError Instr :=
  if b = c.cmdSetLeds then .ok .cmdSetLeds
  else if b = c.cmdReset then .ok .cmdReset
  else .error (.noSuchCommand b)

/-- The byte whose data bits stand in a wire string from position `pos` on (R81 to R84, R87). -/
def byteAt (wire : List Bit) (pos : Nat) : Byte :=
  byteOfBits (wire.getD pos false) (wire.getD (pos + 1) false) (wire.getD (pos + 2) false) (wire.getD (pos + 3) false)
    (wire.getD (pos + 4) false) (wire.getD (pos + 5) false) (wire.getD (pos + 6) false) (wire.getD (pos + 7) false)

/-- The payload of an 11-bit AT wire string (R81, R82), or the first check of R97 it fails, in the order of R246. -/
def decodeAtWire (wire : List Bit) : Except DecodeError Byte :=
  if wire.length = 11 then
    if wire.getD 0 false then .error .badStartBit
    else if !wire.getD 10 false then .error .badStopBit
    else if wire.getD 9 false = oddParity (byteAt wire 1) then .ok (byteAt wire 1)
    else .error .badParity
  else .error (.badLength wire.length)

/-- The XT frame a 9-bit or 10-bit wire string is (R83, R84). -/
def decodeXtWire (passes : List (Bit × Nat)) (wire : List Bit) : Except DecodeError Instr :=
  if wire.length = 9 then
    if wire.getD 0 false then .ok (.xtFrame9 (byteAt wire 1) passes) else .error .badStartBit
  else if wire.length = 10 then
    if !wire.getD 0 false && wire.getD 1 false then .ok (.xtFrame10 (byteAt wire 2) passes) else .error .badStartBit
  else .error (.badLength wire.length)

/-- The frame a wire string is, with the times of its transfer. -/
def decodeFrame (fmt : FrameFormat) (wire : List Bit) (sch : Schedule) : Except DecodeError Instr :=
  match fmt with
  | .atRx =>
    match decodeAtWire wire with
    | .ok v => .ok (.atRxFrame v (sch.edges.map Prod.snd))
    | .error e => .error e
  | .atTx =>
    match decodeAtWire wire with
    | .ok v => .ok (.atTxFrame v sch.tReq sch.tRel sch.edges)
    | .error e => .error e
  | .xt => decodeXtWire sch.edges wire

/-- The decoder of a core built with `c`, total on every word. -/
def decode (c : Cfg) (w : Encoded) (sch : Schedule) : Except DecodeError Instr :=
  match w with
  | .payload ext b => decodePayload c ext b
  | .command b => decodeCommand c b
  | .frame fmt wire => decodeFrame fmt wire sch

/-- The encoder: the word of an instruction; `none` for the operations, which have no bit encoding (R104). -/
def encode (c : Cfg) (i : Instr) : Option Encoded :=
  match i with
  | .atRxFrame v _ => some (.frame .atRx (atWire v))
  | .atTxFrame v _ _ _ => some (.frame .atTx (atWire v))
  | .xtFrame9 v _ => some (.frame .xt (xtWire9 v))
  | .xtFrame10 v _ => some (.frame .xt (xtWire10 v))
  | .prefixE0 => some (.payload false 0xE0#8)
  | .prefixF0 => some (.payload false 0xF0#8)
  | .cmdSetLeds => some (.command c.cmdSetLeds)
  | .cmdReset => some (.command c.cmdReset)
  | i => (keyRow i).map fun r => .payload r.ext r.code

/-- The times an instruction's transfer takes, which its word does not hold. -/
def scheduleOf (i : Instr) : Schedule :=
  match i with
  | .atRxFrame _ times => ⟨0, 0, times.map fun ts => (false, ts)⟩
  | .atTxFrame _ tReq tRel edges => ⟨tReq, tRel, edges⟩
  | .xtFrame9 _ passes => ⟨0, 0, passes⟩
  | .xtFrame10 _ passes => ⟨0, 0, passes⟩
  | _ => ⟨0, 0, []⟩

/-- The first of the readings that the decoder accepts, with the instruction it is. -/
def acceptedReading (c : Cfg) (sch : Schedule) : List Encoded → Option (Encoded × Instr)
  | [] => none
  | w :: rest =>
    match decode c w sch with
    | .ok i => some (w, i)
    | .error _ => acceptedReading c sch rest

/-- The lowest `n` bits of a number, bit 0 first (R9). -/
def lowBits : Nat → Nat → List Bit
  | 0, _ => []
  | n + 1, w => w.testBit 0 :: lowBits n (w / 2)

/-- The frames a table word can be, its bits put in wire order by `order`. -/
def frameReadings (order : List Bit → List Bit) (w : Nat) : List Encoded :=
  (if w < 2 ^ 11 then [.frame .atRx (order (lowBits 11 w)), .frame .atTx (order (lowBits 11 w))] else []) ++
  (if w < 2 ^ 9 then [.frame .xt (order (lowBits 9 w))] else []) ++
  (if w < 2 ^ 10 then [.frame .xt (order (lowBits 10 w))] else [])

/-- Every edge or pass at time 0: the table gives a word no times (log 15). -/
def tableSchedule (n : Nat) : Schedule := ⟨0, 0, List.replicate n (true, 0)⟩

/-- The places a table word of `nbits` bits can be met in, in the order they are tried. A frame's bits are read in the
order of the wire, bit 0 first (R9, R61), and, if that is no frame, as the table's string is written, leftmost bit
highest (log 15). -/
def tableReadings (nbits w : Nat) : List Encoded :=
  if nbits = 8 then
    if w < 256 then [.payload false (BitVec.ofNat 8 w), .payload true (BitVec.ofNat 8 w), .command (BitVec.ofNat 8 w)]
    else []
  else if 8 < nbits ∧ nbits ≤ 16 then frameReadings id w ++ frameReadings List.reverse w
  else []

/-- The instruction the decoder reads from a table word (log 15). -/
def decodeTableWord (nbits w : Nat) : Option Instr :=
  (acceptedReading cfg (tableSchedule 11) (tableReadings nbits w)).map Prod.snd

end Sys2Proof
end

