-- ==== Sys2Proof/Machine/State.lean ====
section
/-! DEFINITION. The state of the core: the record `S` of 10_state.md (R20 to R45), the model's own fields for what
the environment delivers next and for the place of the main loop inside a pass, the reset state (R50), and the
reasons a step can stop. -/

namespace Sys2Proof.Machine

/-- The state tag of the AT bus (R28); the index in a tag is the bit position (R21). -/
inductive AtState where
  | idle
  /-- The next edge transfers data bit `i` (`i ≤ 7`) or the parity bit (`i = 8`). -/
  | receiving (i : Fin 9)
  | parityCheck
  | txHold
  /-- At the next edge the core puts out data bit `i` (`i ≤ 7`), the parity bit (8) or the stop bit (9). -/
  | txSending (i : Fin 10)
  | txAwaitAck
deriving DecidableEq, Repr

/-- The state tag of the XT bus (R28); `p < XT_FRAME_BITS` is part of the invariant of Safety.lean. -/
inductive XtState where
  | idle
  | sending (p : Nat)
deriving DecidableEq, Repr

/-- Link State of the AT bus (R22 to R26, R28). -/
structure AtLink where
  st : AtState
  shift : Byte
  parAcc : Bit
  parBit : Bit
  deadline : Option Nat
  txByte : Byte
  holdUntil : Nat
deriving DecidableEq, Repr

/-- Link State of the XT bus (R27, R28). -/
structure XtLink where
  st : XtState
  shift : Byte
  parAcc : Bit
  nextBitAt : Nat
  inhibitSince : Option Nat
deriving DecidableEq, Repr

/-- Translation State and Indicator State (R32, R35). -/
structure Translator where
  ext : Bit
  brk : Bit
  ind : Byte
deriving DecidableEq, Repr

/-- The report of the outbound path to the Dispatch Loop (R33). -/
inductive TxResult where
  | none
  | delivered
  | failed
deriving DecidableEq, Repr

/-- The pin output registers (R42). -/
structure Pins where
  atClkLow : Bit
  atDataLow : Bit
  xtClkOut : Bit
  xtDataOut : Bit
deriving DecidableEq, Repr

/-- The error kinds, in the order of their codes 0 to 6 (R240). -/
inductive ErrorKind where
  | framing
  | parity
  | timeout
  | queueOverflow
  | unknownScanCode
  | transmitInhibitedExceeded
  | commandDeliveryFailed
deriving DecidableEq, Repr

/-- The diagnostic counters `S.err[0]` to `S.err[6]` (R34). -/
structure Counters where
  framing : Nat
  parity : Nat
  timeout : Nat
  queueOverflow : Nat
  unknownScanCode : Nat
  transmitInhibitedExceeded : Nat
  commandDeliveryFailed : Nat
deriving DecidableEq, Repr

/-- The outputs of R13. -/
inductive Output where
  | xtBit (b : Bit)
  | xtByte (v : Byte)
  | xtDropped (v : Byte)
  | atTxBit (b : Bit)
  | atTxDelivered (v : Byte)
  | atTxFailed (v : Byte)
  | keyboardUnresponsive
deriving DecidableEq, Repr

/-- The operations of a pass in the order of R226, one stage for each place a handler may run before. -/
inductive PassStage where
  | poll
  | pop
  | translate
  | load
  | xtStep
  | service
  | sleep
deriving DecidableEq, Repr

/-- The place inside a pass: its next stage, and the levels and the time the pass carries (R226). -/
structure PassPosition where
  stage : PassStage
  atClk : Bit
  atData : Bit
  xtClk : Bit
  ts : Nat
deriving DecidableEq, Repr

/-- What an operation returns to its caller (R112, R190, R221). -/
inductive Returned where
  | nothing
  | bit (b : Bool)
  | frame (f : Frame)
  | bytes (xs : List Byte)
deriving DecidableEq, Repr

/-- The state of the machine: the record `S` of R20, then the three fields of the model. -/
structure State where
  /-- `S.at`, owned by the AT Protocol Adapter (R20). -/
  atBus : AtLink
  /-- `S.xt`, owned by `host_transmitter_sm` (R20). -/
  xtBus : XtLink
  /-- `S.tr`, owned by `scan_code_translator` (R20). -/
  tr : Translator
  /-- `S.q`, the Frame Queue, oldest first (R39). -/
  q : List Frame
  /-- `S.xt_pending`: the output of the last translation not yet handed over (R40). -/
  xtPending : List Byte
  /-- `S.cmd_q`, the command queue, oldest first (R41). -/
  cmdQ : List Command
  /-- `S.cmd_attempts`: failed attempts at the byte in flight (R36). -/
  cmdAttempts : Nat
  /-- `S.tx_result`: the delivery report (R33). -/
  txResult : TxResult
  /-- `S.kbd_unresponsive` (R33). -/
  kbdUnresponsive : Bit
  /-- `S.err[0]` to `S.err[6]` (R34). -/
  err : Counters
  /-- The pin output registers (R42). -/
  pins : Pins
  /-- `S.at_clk_prev`: the AT clock level at the previous tick (R33). -/
  atClkPrev : Bit
  /-- `S.asleep`: the main loop is in its low-power wait (R33, R268). -/
  asleep : Bit
  /-- The outputs produced so far; no operation reads it (R45). -/
  trace : List Output
  /-- The model's own: what the environment delivers next, first element first (log 1). -/
  inputs : List Input
  /-- The model's own: the place inside a pass that handlers may interrupt, if one is being run (log 6). -/
  pass : Option PassPosition
  /-- The model's own: what the last operation run on its own returned (log 5). -/
  ret : Returned
deriving DecidableEq, Repr

/-- The reasons a step can fault. No meaning answers one: the core has no fatal fault, trap or halt (R18, R244). -/
inductive Fault where
deriving DecidableEq, Repr

/-- The reasons a step can be refused. -/
inductive Refusal where
  /-- Raised by an arm of `exec` whose instruction has no meaning yet; safe: the run stops. No arm is left. -/
  | notModelled (mnemonic : String)
  /-- Raised by the step for an event or an interruptible pass of the sampling mode the core was not built for, which
  the spec says does not occur (R113, V6); safe: the run stops (log 8). -/
  | wrongSamplingMode
  /-- Raised by `BR.SERVICE`, and by the pass and the tick that call it, when a delivery report waits and the command
  queue is empty: the rule reads the head of an empty queue in a state that cannot be reached (R202, R49, V9); safe:
  the run stops (log 9). -/
  | reportWithoutCommand
  /-- Raised by the step for a command byte that begins no command (R89) and for a wire string of the transmit or XT
  format that is no frame of it (R80, R97); safe: the run stops (log 21). -/
  | malformedWord
deriving DecidableEq, Repr

/-- The reset values of the AT bus (R50). -/
def AtLink.reset : AtLink := ⟨.idle, 0, false, false, none, 0, 0⟩

/-- The reset values of the XT bus (R50). -/
def XtLink.reset : XtLink := ⟨.idle, 0, false, 0, none⟩

/-- The machine right after reset: the table of R50, with nothing delivered and no pass begun (log 14). -/
def State.reset : State where
  atBus := AtLink.reset
  xtBus := XtLink.reset
  tr := ⟨false, false, 0⟩
  q := []
  xtPending := []
  cmdQ := []
  cmdAttempts := 0
  txResult := .none
  kbdUnresponsive := false
  err := ⟨0, 0, 0, 0, 0, 0, 0⟩
  pins := ⟨false, false, true, true⟩
  atClkPrev := true
  asleep := false
  trace := []
  inputs := []
  pass := none
  ret := .nothing

/-- `atBus` replaced. -/
def State.withAt (s : State) (x : AtLink) : State := { s with atBus := x }

/-- `xtBus` replaced. -/
def State.withXt (s : State) (x : XtLink) : State := { s with xtBus := x }

/-- `tr` replaced. -/
def State.withTr (s : State) (x : Translator) : State := { s with tr := x }

/-- `q` replaced. -/
def State.withQ (s : State) (x : List Frame) : State := { s with q := x }

/-- `xtPending` replaced. -/
def State.withXtPending (s : State) (x : List Byte) : State := { s with xtPending := x }

/-- `cmdQ` replaced. -/
def State.withCmdQ (s : State) (x : List Command) : State := { s with cmdQ := x }

/-- `cmdAttempts` replaced. -/
def State.withCmdAttempts (s : State) (x : Nat) : State := { s with cmdAttempts := x }

/-- `txResult` replaced. -/
def State.withTxResult (s : State) (x : TxResult) : State := { s with txResult := x }

/-- `kbdUnresponsive` replaced. -/
def State.withKbdUnresponsive (s : State) (x : Bit) : State := { s with kbdUnresponsive := x }

/-- `err` replaced. -/
def State.withErr (s : State) (x : Counters) : State := { s with err := x }

/-- `pins` replaced. -/
def State.withPins (s : State) (x : Pins) : State := { s with pins := x }

/-- `atClkPrev` replaced. -/
def State.withAtClkPrev (s : State) (x : Bit) : State := { s with atClkPrev := x }

/-- `asleep` replaced. -/
def State.withAsleep (s : State) (x : Bit) : State := { s with asleep := x }

/-- `trace` replaced. -/
def State.withTrace (s : State) (x : List Output) : State := { s with trace := x }

/-- `inputs` replaced. -/
def State.withInputs (s : State) (x : List Input) : State := { s with inputs := x }

/-- `pass` replaced. -/
def State.withPass (s : State) (x : Option PassPosition) : State := { s with pass := x }

/-- `ret` replaced. -/
def State.withRet (s : State) (x : Returned) : State := { s with ret := x }

end Sys2Proof.Machine
end

