-- ==== Sys2Proof/Machine/Ops.lean ====
section
/-! DEFINITION. The operations every block shares: output, `raise`, the link resets, the queue primitives, the read
of a line level and the test for quiescence. The core's only exception is an error kind; taking one is `raise`, which
saves nothing, transfers control nowhere and leaves nothing to return from (R241, R242, R259, R260). -/

namespace Sys2Proof.Machine

/-- Appends one output to the trace (R12 `out`, R45). -/
def emit (o : Output) (s : State) : State := s.withTrace (s.trace ++ [o])

/-- The counter of an error kind (R34, R240). -/
def Counters.get (e : Counters) (k : ErrorKind) : Nat :=
  match k with
  | .framing => e.framing
  | .parity => e.parity
  | .timeout => e.timeout
  | .queueOverflow => e.queueOverflow
  | .unknownScanCode => e.unknownScanCode
  | .transmitInhibitedExceeded => e.transmitInhibitedExceeded
  | .commandDeliveryFailed => e.commandDeliveryFailed

/-- The counter of one error kind incremented, saturating at its width (R242). -/
def Counters.bump (width : Nat) (e : Counters) (k : ErrorKind) : Counters :=
  match k with
  | .framing => { e with framing := saturatingSucc width e.framing }
  | .parity => { e with parity := saturatingSucc width e.parity }
  | .timeout => { e with timeout := saturatingSucc width e.timeout }
  | .queueOverflow => { e with queueOverflow := saturatingSucc width e.queueOverflow }
  | .unknownScanCode => { e with unknownScanCode := saturatingSucc width e.unknownScanCode }
  | .transmitInhibitedExceeded =>
    { e with transmitInhibitedExceeded := saturatingSucc width e.transmitInhibitedExceeded }
  | .commandDeliveryFailed => { e with commandDeliveryFailed := saturatingSucc width e.commandDeliveryFailed }

/-- `raise E`: increments the counter of `E` and changes nothing else (R242). -/
def raise (c : Cfg) (k : ErrorKind) (s : State) : State := s.withErr (s.err.bump c.ctrWidth k)

/-- `link_reset(AT)` of R29; `hold_until` is kept. -/
def AtLink.linkReset (a : AtLink) : AtLink :=
  { a with st := .idle, shift := 0, parAcc := false, parBit := false, deadline := none, txByte := 0 }

/-- `link_reset(XT)` of R29; `next_bit_at` is kept. -/
def XtLink.linkReset (x : XtLink) : XtLink := { x with st := .idle, shift := 0, inhibitSince := none }

/-- `link_reset(AT)` on the state (R29). -/
def linkResetAt (s : State) : State := s.withAt s.atBus.linkReset

/-- `link_reset(XT)` on the state (R29). -/
def linkResetXt (s : State) : State := s.withXt s.xtBus.linkReset

/-- `push`: append as the newest element (R66, R67). -/
def pushBack {α : Type} (xs : List α) (x : α) : List α := xs ++ [x]

/-- The level the core reads on an AT line that carries `level` from elsewhere: 0 while the core itself pulls that line
low (R10, R43; log 30). -/
def lineRead (level pulledLow : Bit) : Bit := level && !pulledLow

/-- `LINK.IS_INHIBITED(bus)`, `clkIn` being the level of that bus's clock line (R112): a pure read (R69). -/
def isInhibited (bus : Bus) (clkIn : Bit) (s : State) : Bool :=
  match bus with
  | .xtBus => !clkIn
  | .atBus => !clkIn && !s.pins.atClkLow

/-- The tag is `Receiving(_)` or `ParityCheck`. -/
def AtState.isFrameReceive : AtState → Bool
  | .receiving _ | .parityCheck => true
  | .idle | .txHold | .txSending _ | .txAwaitAck => false

/-- The tag is `TxSending(_)` or `TxAwaitAck`. -/
def AtState.isFrameSend : AtState → Bool
  | .txSending _ | .txAwaitAck => true
  | .idle | .receiving _ | .parityCheck | .txHold => false

/-- `bitpos`: the position within the AT frame of the bit that the next falling edge transfers; none in `TxHold`
(R21). -/
def AtState.bitpos : AtState → Option Nat
  | .idle => some 0
  | .receiving i => some (i.val + 1)
  | .parityCheck => some 10
  | .txHold => none
  | .txSending i => some (i.val + 1)
  | .txAwaitAck => some 11

/-- The AT deadline has not expired at `ts` (R11, R25). -/
def atInTime (ts : Nat) (s : State) : Bool := !expired s.atBus.deadline ts

/-- `quiescent(S)` (R227). -/
def quiescent (s : State) : Bool :=
  s.q.isEmpty && s.xtPending.isEmpty && s.cmdQ.isEmpty && s.xtBus.st == .idle && s.atBus.st == .idle &&
    s.txResult == .none

end Sys2Proof.Machine
end

