-- ==== Sys2Proof/Machine/Transmitter.lean ====
section
/-! DEFINITION. `keyboard_transmitter_sm`: AT frame output with open-collector signalling (R150 to R158), and the
AT half of `LINK.SEND_BIT` (R111). -/

namespace Sys2Proof.Machine

/-- `LINK.SEND_BIT(AT, value)`: 0 pulls the data line low, 1 releases it (R111). -/
def sendBitAt (value : Bit) (s : State) : State :=
  emit (.atTxBit value) (s.withPins { s.pins with atDataLow := !value })

/-- `TX.REQUEST(at_clk, ts)` (R151). -/
def txRequest (c : Cfg) (atClk : Bit) (ts : Nat) (s : State) : State :=
  match s.cmdQ with
  | [] => s
  | k :: _ =>
    if s.atBus.st = .idle ∧ s.txResult = .none ∧ !isInhibited .atBus atClk s then
      (s.withPins { s.pins with atClkLow := true }).withAt { s.atBus with
        txByte := k.first, holdUntil := ts + c.atReqHold, st := .txHold }
    else s

/-- `TX.RELEASE(ts)`: the clock is released and the data line pulled low in one operation (R152, C4). -/
def txRelease (c : Cfg) (ts : Nat) (s : State) : State :=
  if s.atBus.st = .txHold ∧ s.atBus.holdUntil ≤ ts then
    (s.withPins { s.pins with atClkLow := false, atDataLow := true }).withAt { s.atBus with
      parAcc := false, deadline := some (ts + c.atAckTimeout), st := .txSending 0 }
  else s

/-- `TX.HOLD_EDGE`: nothing (R153). -/
def txHoldEdge (s : State) : State := s

/-- The bit `TX.BIT` puts out at index `i`: data, odd parity, stop (R154). -/
def txBitValue (a : AtLink) (i : Fin 10) : Bit :=
  if i.val ≤ 7 then a.txByte.getLsbD i.val else if i.val = 8 then true ^^ a.parAcc else true

/-- The tag after `TX.BIT(i)` (R154). -/
def txNextState (i : Fin 10) : AtState :=
  if h : i.val < 9 then .txSending ⟨i.val + 1, by omega⟩ else .txAwaitAck

/-- `TX.BIT(i, ts)`, in time (R154). -/
def txBit (c : Cfg) (i : Fin 10) (ts : Nat) (s : State) : State :=
  if s.atBus.st = .txSending i ∧ atInTime ts s then
    (sendBitAt (txBitValue s.atBus i) s).withAt { s.atBus with
      parAcc := if i.val ≤ 7 then s.atBus.parAcc ^^ txBitValue s.atBus i else s.atBus.parAcc,
      deadline := some (ts + c.atAckTimeout), st := txNextState i }
  else s

/-- `TX.ACK(data, ts)`, in time: the edge is the acknowledgment; its data level is not examined (R155). -/
def txAck (_data : Bit) (ts : Nat) (s : State) : State :=
  if s.atBus.st = .txAwaitAck ∧ atInTime ts s then
    emit (.atTxDelivered s.atBus.txByte) (linkResetAt (s.withTxResult .delivered))
  else s

/-- `TX.TIMEOUT(ts)` (R156). -/
def txTimeout (c : Cfg) (ts : Nat) (s : State) : State :=
  if s.atBus.st.isFrameSend ∧ expired s.atBus.deadline ts then
    emit (.atTxFailed s.atBus.txByte)
      (linkResetAt (((raise c .timeout s).withTxResult .failed).withPins
        { s.pins with atClkLow := false, atDataLow := false }))
  else s

/-- `TX.REQUEST`. -/
def execTxRequest (atClk : Bit) (ts : Nat) (s : State) : Host.Outcome State Fault Refusal :=
  .next (txRequest cfg atClk ts s)

/-- `TX.RELEASE`. -/
def execTxRelease (ts : Nat) (s : State) : Host.Outcome State Fault Refusal := .next (txRelease cfg ts s)

/-- `TX.HOLD_EDGE`. -/
def execTxHoldEdge (s : State) : Host.Outcome State Fault Refusal := .next (txHoldEdge s)

/-- `TX.BIT`. -/
def execTxBit (i : Fin 10) (ts : Nat) (s : State) : Host.Outcome State Fault Refusal := .next (txBit cfg i ts s)

/-- `TX.ACK`. -/
def execTxAck (data : Bit) (ts : Nat) (s : State) : Host.Outcome State Fault Refusal := .next (txAck data ts s)

/-- `TX.TIMEOUT`. -/
def execTxTimeout (ts : Nat) (s : State) : Host.Outcome State Fault Refusal := .next (txTimeout cfg ts s)

end Sys2Proof.Machine
end

