-- ==== Sys2Proof/Machine/Bridge.lean ====
section
/-! DEFINITION. The command bridge: host requests become queued AT commands, and one service per pass consumes the
delivery report and advances the transmitter (R89, R200 to R203). -/

namespace Sys2Proof.Machine

/-- Queues a command for outbound transmission, or counts `CommandDeliveryFailed` when the queue is full (R200,
R201, D11). -/
def queueCommand (c : Cfg) (k : Command) (s : State) : State :=
  if s.cmdQ.length < c.cmdQCap then s.withCmdQ (pushBack s.cmdQ k) else raise c .commandDeliveryFailed s

/-- The "set LEDs" command built from Indicator State (R35, R89). -/
def setLedsCommand (c : Cfg) (s : State) : Command := ⟨.setLeds, c.cmdSetLeds, [s.tr.ind]⟩

/-- The "reset" command (R89). -/
def resetCommand (c : Cfg) : Command := ⟨.reset, c.cmdReset, []⟩

/-- `BR.SET_INDICATORS(mask)`: Indicator State is written first and the command is built from it (R200). -/
def brSetIndicators (c : Cfg) (mask : Byte) (s : State) : State :=
  let t := (s.withAsleep false).withTr { s.tr with ind := mask &&& c.indMask }
  queueCommand c (setLedsCommand c t) t

/-- The "set LEDs" command queued with Indicator State as it stands, and the wait ended (R35, R89, R200; log 11). -/
def queueSetLeds (c : Cfg) (s : State) : State := queueCommand c (setLedsCommand c s) (s.withAsleep false)

/-- `BR.RESET` (R201). -/
def brReset (c : Cfg) (s : State) : State := queueCommand c (resetCommand c) (s.withAsleep false)

/-- The command at the head of the queue is complete; an acknowledged reset clears the translator's state (R202,
D21). -/
def commandComplete (k : Command) (rest : List Command) (s : State) : State :=
  let t := s.withCmdQ rest
  match k.kind with
  | .reset => t.withTr ⟨false, false, 0⟩
  | .setLeds => t

/-- The `Delivered` report consumed; `none` when there is no command it could be about (R202, V9). -/
def reportDelivered (s : State) : Option State :=
  let t := ((s.withTxResult .none).withCmdAttempts 0).withKbdUnresponsive false
  match s.cmdQ with
  | [] => none
  | k :: ks =>
    match k.rest with
    | [] => some (commandComplete k ks t)
    | b :: bs => some (t.withCmdQ ({ k with first := b, rest := bs } :: ks))

/-- The `Failed` report consumed: the same byte again, or the whole command given up (R202, D10). -/
def reportFailed (c : Cfg) (s : State) : State :=
  let t := s.withTxResult .none
  if c.cmdMaxAttempts ≤ s.cmdAttempts + 1 then
    emit .keyboardUnresponsive
      ((raise c .commandDeliveryFailed ((t.withCmdQ s.cmdQ.tail).withCmdAttempts 0)).withKbdUnresponsive true)
  else t.withCmdAttempts (s.cmdAttempts + 1)

/-- The first half of `BR.SERVICE`: the delivery report is read and cleared (R202). -/
def consumeReport (c : Cfg) (s : State) : Option State :=
  match s.txResult with
  | .none => some s
  | .delivered => reportDelivered s
  | .failed => some (reportFailed c s)

/-- The second half of `BR.SERVICE`: the transmitter is advanced (R202). -/
def advanceTransmitter (c : Cfg) (atClk : Bit) (ts : Nat) (s : State) : State :=
  if s.atBus.st = .txHold then txRelease c ts s else txRequest c atClk ts s

/-- `BR.SERVICE(at_clk, ts)` (R202); `none` in the unreachable state of V9 (log 9). -/
def brService (c : Cfg) (atClk : Bit) (ts : Nat) (s : State) : Option State :=
  (consumeReport c s).map (advanceTransmitter c atClk ts)

/-- The state an operation that services the bridge ends in, or the refusal of V9 (log 9). -/
def serviced (r : Option State) : Host.Outcome State Fault Refusal :=
  match r with
  | some t => .next t
  | none => .refused .reportWithoutCommand

/-- `BR.SET_INDICATORS`. -/
def execBrSetIndicators (mask : Byte) (s : State) : Host.Outcome State Fault Refusal :=
  .next (brSetIndicators cfg mask s)

/-- `BR.RESET`. -/
def execBrReset (s : State) : Host.Outcome State Fault Refusal := .next (brReset cfg s)

/-- `BR.SERVICE`. -/
def execBrService (atClk : Bit) (ts : Nat) (s : State) : Host.Outcome State Fault Refusal :=
  serviced (brService cfg atClk ts s)

/-- `CMD_SET_LEDS`, the command byte 0xED followed by `S.tr.ind`: the command is queued for transmission, built from
the Indicator State as it stands (R35, R89, R200; log 11). -/
def execCmdSetLeds (s : State) : Host.Outcome State Fault Refusal :=
  .next (queueSetLeds cfg s)

/-- `CMD_RESET`, the command byte 0xFF followed by nothing: the command is queued for transmission (R89, R201;
log 11). -/
def execCmdReset (s : State) : Host.Outcome State Fault Refusal :=
  .next (brReset cfg s)

end Sys2Proof.Machine
end

