-- ==== Sys2Proof/Machine/HostTransmitter.lean ====
section
/-! DEFINITION. `host_transmitter_sm`: XT frame output with self-generated clock and inhibit handling (R170 to
R175), and the XT half of `LINK.SEND_BIT` (R111). -/

namespace Sys2Proof.Machine

/-- `LINK.SEND_BIT(XT, value)`: the data line first, then the clock low and high again inside this one operation
(R111, D15). -/
def sendBitXt (value : Bit) (s : State) : State :=
  let driven := s.withPins { s.pins with xtDataOut := value }
  let low := driven.withPins { driven.pins with xtClkOut := false }
  let high := low.withPins { low.pins with xtClkOut := true }
  emit (.xtBit value) high

/-- `XT.LOAD(byte)`; `next_bit_at` is kept (R171). -/
def xtLoad (b : Byte) (s : State) : State :=
  if s.xtBus.st = .idle then s.withXt { s.xtBus with shift := b, inhibitSince := none, st := .sending 0 } else s

/-- The end of a byte, sent or dropped: the data line at its idle level and the link reset (R172, D15). -/
def xtRelease (s : State) : State := linkResetXt (s.withPins { s.pins with xtDataOut := true })

/-- `XT.STEP` while the host holds the clock low (R172, D16). -/
def xtStalled (c : Cfg) (ts : Nat) (s : State) : State :=
  match s.xtBus.inhibitSince with
  | none => s.withXt { s.xtBus with inhibitSince := some ts }
  | some t0 =>
    if c.xtInhibitMaxWait < ts - t0 then
      emit (.xtDropped s.xtBus.shift) (xtRelease (raise c .transmitInhibitedExceeded s))
    else s

/-- `XT.STEP` on a free bus at frame position `p` (R172, D17). -/
def xtAdvance (c : Cfg) (p : Nat) (ts : Nat) (s : State) : State :=
  let free := s.withXt { s.xtBus with inhibitSince := none }
  if s.xtBus.nextBitAt ≤ ts then
    let sent := sendBitXt (xtFrameBit c.xtFrameBits s.xtBus.shift p) free
    let timed := sent.withXt { sent.xtBus with nextBitAt := ts + c.xtBitPeriod }
    if p + 1 = xtFrameLen c.xtFrameBits then emit (.xtByte s.xtBus.shift) (xtRelease timed)
    else timed.withXt { timed.xtBus with st := .sending (p + 1) }
  else free

/-- `XT.STEP(xt_clk, ts)` (R172). -/
def xtStep (c : Cfg) (xtClk : Bit) (ts : Nat) (s : State) : State :=
  match s.xtBus.st with
  | .idle => s
  | .sending p => if isInhibited .xtBus xtClk s then xtStalled c ts s else xtAdvance c p ts s

/-- `XT.LOAD`. -/
def execXtLoad (b : Byte) (s : State) : Host.Outcome State Fault Refusal := .next (xtLoad b s)

/-- `XT.STEP`. -/
def execXtStep (xtClk : Bit) (ts : Nat) (s : State) : Host.Outcome State Fault Refusal :=
  .next (xtStep cfg xtClk ts s)

end Sys2Proof.Machine
end

