-- ==== Sys2Proof/Machine/Queue.lean ====
section
/-! DEFINITION. The Frame Queue: `Q.PUSH` and `Q.POP` (R220, R221). -/

namespace Sys2Proof.Machine

/-- `Q.PUSH(f)`: appends `f`, or, when the queue holds `QUEUE_CAP` frames, applies the overflow policy (R220;
drop-newest, D5). -/
def queuePush (c : Cfg) (f : Frame) (s : State) : State :=
  if s.q.length < c.queueCap then s.withQ (pushBack s.q f)
  else match c.overflowPolicy with
    | .dropNewest => raise c .queueOverflow s

/-- `Q.POP`: removes and returns the oldest Frame; no effect when the queue is empty (R221, R12). -/
def queuePop (s : State) : Option Frame × State :=
  match s.q with
  | [] => (none, s)
  | f :: rest => (some f, s.withQ rest)

/-- `Q.PUSH`. -/
def execQPush (f : Frame) (s : State) : Host.Outcome State Fault Refusal := .next (queuePush cfg f s)

/-- `Q.POP`: the Frame is what it returns. -/
def execQPop (s : State) : Host.Outcome State Fault Refusal :=
  match queuePop s with
  | (none, t) => .next t
  | (some f, t) => .next (t.withRet (.frame f))

end Sys2Proof.Machine
end

