-- ==== Sys2Proof/Machine/Receiver.lean ====
section
/-! DEFINITION. `keyboard_receiver_sm`: AT frame capture on external clock edges (R130 to R138). -/

namespace Sys2Proof.Machine

/-- `RX.START(data, ts)` (R131). -/
def rxStart (c : Cfg) (data : Bit) (ts : Nat) (s : State) : State :=
  if s.atBus.st = .idle then
    if data then raise c .framing s
    else s.withAt { s.atBus with
      shift := 0, parAcc := false, parBit := false, deadline := some (ts + c.atBitTimeout), st := .receiving 0 }
  else s

/-- `RX.DATA(i, data, ts)`, in time (R132, R87). -/
def rxData (c : Cfg) (i : Fin 8) (data : Bit) (ts : Nat) (s : State) : State :=
  if s.atBus.st = .receiving i.castSucc ∧ atInTime ts s then
    s.withAt { s.atBus with
      shift := setBit s.atBus.shift i.val data, parAcc := s.atBus.parAcc ^^ data,
      deadline := some (ts + c.atBitTimeout), st := .receiving i.succ }
  else s

/-- `RX.PARITY(data, ts)`, in time (R133). -/
def rxParity (c : Cfg) (data : Bit) (ts : Nat) (s : State) : State :=
  if s.atBus.st = .receiving 8 ∧ atInTime ts s then
    s.withAt { s.atBus with parBit := data, deadline := some (ts + c.atBitTimeout), st := .parityCheck }
  else s

/-- The Frame `RX.STOP` pushes (R30, R134). -/
def receivedFrame (a : AtLink) : Frame := ⟨.atProto, a.shift, a.parBit, true⟩

/-- `RX.STOP(data, ts)`, in time: stop bit, then parity, then the queue; the link is reset in all three cases
(R134, R246). -/
def rxStop (c : Cfg) (data : Bit) (ts : Nat) (s : State) : State :=
  if s.atBus.st = .parityCheck ∧ atInTime ts s then
    linkResetAt
      (if !data then raise c .framing s
       else if !parityPasses s.atBus.parAcc s.atBus.parBit then raise c .parity s
       else queuePush c (receivedFrame s.atBus) s)
  else s

/-- `RX.TIMEOUT(ts)` (R135). -/
def rxTimeout (c : Cfg) (ts : Nat) (s : State) : State :=
  if s.atBus.st.isFrameReceive ∧ expired s.atBus.deadline ts then linkResetAt (raise c .timeout s) else s

/-- `RX.START`. -/
def execRxStart (data : Bit) (ts : Nat) (s : State) : Host.Outcome State Fault Refusal :=
  .next (rxStart cfg data ts s)

/-- `RX.DATA`. -/
def execRxData (i : Fin 8) (data : Bit) (ts : Nat) (s : State) : Host.Outcome State Fault Refusal :=
  .next (rxData cfg i data ts s)

/-- `RX.PARITY`. -/
def execRxParity (data : Bit) (ts : Nat) (s : State) : Host.Outcome State Fault Refusal :=
  .next (rxParity cfg data ts s)

/-- `RX.STOP`. -/
def execRxStop (data : Bit) (ts : Nat) (s : State) : Host.Outcome State Fault Refusal :=
  .next (rxStop cfg data ts s)

/-- `RX.TIMEOUT`. -/
def execRxTimeout (ts : Nat) (s : State) : Host.Outcome State Fault Refusal := .next (rxTimeout cfg ts s)

end Sys2Proof.Machine
end

