-- ==== Sys2Proof/Machine/Link.lean ====
section
/-! DEFINITION. `bit_level_link`: the edge handlers, the bit driver and the inhibit test (R110 to R112, R114 to
R117). -/

namespace Sys2Proof.Machine

/-- The operation the state tag selects for a falling AT edge that is in time; in `TxHold` the edge is the core's
own (R110, R153). -/
def edgeByTag (c : Cfg) (data : Bit) (ts : Nat) (s : State) : State :=
  match s.atBus.st with
  | .idle => rxStart c data ts s
  | .receiving i => if h : i.val < 8 then rxData c ⟨i.val, h⟩ data ts s else rxParity c data ts s
  | .parityCheck => rxStop c data ts s
  | .txHold => txHoldEdge s
  | .txSending i => txBit c i ts s
  | .txAwaitAck => txAck data ts s

/-- A falling AT edge after the deadline: a frame being received is abandoned and the edge examined again in `Idle`
when `LATE_EDGE_RESTARTS`; a frame being sent is abandoned and the edge dropped (R110, D3). -/
def lateEdge (c : Cfg) (data : Bit) (ts : Nat) (s : State) : State :=
  if s.atBus.st.isFrameReceive then
    if c.lateEdgeRestarts then edgeByTag c data ts (rxTimeout c ts s) else rxTimeout c ts s
  else txTimeout c ts s

/-- `LINK.ON_EDGE(AT, level, data, ts)` (R110). -/
def onEdge (c : Cfg) (level data : Bit) (ts : Nat) (s : State) : State :=
  let t := s.withAsleep false
  if level then t
  else if t.atBus.st = .txHold then txHoldEdge t
  else if expired t.atBus.deadline ts then lateEdge c data ts t
  else edgeByTag c data ts t

/-- `LINK.SEND_BIT(bus, value)` (R111). -/
def sendBit (bus : Bus) (value : Bit) (s : State) : State :=
  match bus with
  | .atBus => sendBitAt value s
  | .xtBus => sendBitXt value s

/-- `LINK.XT_EDGE(level, ts)` only ends the low-power wait (R114). -/
def xtEdge (_level : Bit) (_ts : Nat) (s : State) : State := s.withAsleep false

/-- `LINK.ON_EDGE`. -/
def execLinkOnEdge (level data : Bit) (ts : Nat) (s : State) : Host.Outcome State Fault Refusal :=
  .next (onEdge cfg level data ts s)

/-- `LINK.SEND_BIT`. -/
def execLinkSendBit (bus : Bus) (value : Bit) (s : State) : Host.Outcome State Fault Refusal :=
  .next (sendBit bus value s)

/-- `LINK.IS_INHIBITED`: its truth value is what it returns (R112). -/
def execLinkIsInhibited (bus : Bus) (clkIn : Bit) (s : State) : Host.Outcome State Fault Refusal :=
  .next (s.withRet (.bit (isInhibited bus clkIn s)))

/-- `LINK.XT_EDGE`. -/
def execLinkXtEdge (level : Bit) (ts : Nat) (s : State) : Host.Outcome State Fault Refusal :=
  .next (xtEdge level ts s)

end Sys2Proof.Machine
end

