-- ==== Sys2Proof/Machine/Frames.lean ====
section
/-! DEFINITION. The frame formats as instructions: the whole transfer of one frame, as a run of the operations that
carry its bits (R81 to R84, R105, R136, R157, R173; log 10). -/

namespace Sys2Proof.Machine

/-- Falling AT edges, one after the other, each with the data level and the time of its handler (R105 `AT_FRAME`). A
data line the core pulls low at that moment reads 0 (R43, log 30). -/
def fallingEdges (c : Cfg) : List (Bit × Nat) → State → State
  | [], s => s
  | (data, ts) :: rest, s => fallingEdges c rest (onEdge c false (lineRead data s.pins.atDataLow) ts s)

/-- Passes of the XT adapter, one `XT.STEP` each (R105 `transmit`). -/
def xtPasses (c : Cfg) : List (Bit × Nat) → State → State
  | [], s => s
  | (xtClk, ts) :: rest, s => xtPasses c rest (xtStep c xtClk ts s)

/-- The inbound AT frame of `v`: its eleven falling edges (R81, R136), in either sampling mode (DESIGN CHOICE,
log 28). -/
def captureFrame (c : Cfg) (v : Byte) (times : List Nat) (s : State) : State :=
  fallingEdges c ((atWire v).zip times) s

/-- The byte in flight: the first byte of the command at the head of the queue (R44 (c), R151). -/
def byteInFlight (s : State) : Option Byte := s.cmdQ.head?.map Command.first

/-- The outbound AT frame of `v`: the bus request, its release and the keyboard's falling edges; guarded by the
guard of `TX.REQUEST` on a free bus with `v` the byte in flight (R82, R151, R157, R12); in either sampling mode
(DESIGN CHOICE, log 28). -/
def sendFrame (c : Cfg) (v : Byte) (tReq tRel : Nat) (edges : List (Bit × Nat)) (s : State) : State :=
  if byteInFlight s = some v ∧ s.atBus.st = .idle ∧ s.txResult = .none then
    fallingEdges c edges (txRelease c tRel (txRequest c true tReq s))
  else s

/-- The XT frame of `v` in the format of `n` bits: `transmit(v)`, guarded by an idle adapter and by the length the
core was built for (R83, R84, R105, R173, R12). DESIGN CHOICE: it runs in the low-power wait too and leaves `asleep`
as it is, so a byte it leaves unfinished there waits for the next event that wakes the loop (R227, log 29). -/
def transmitFrame (c : Cfg) (n : XtFrameBits) (v : Byte) (passes : List (Bit × Nat)) (s : State) : State :=
  if c.xtFrameBits = n ∧ s.xtBus.st = .idle then xtPasses c passes (xtLoad v s) else s

/-- `AT_RX_FRAME`. -/
def execAtRxFrame (v : Byte) (times : List Nat) (s : State) : Host.Outcome State Fault Refusal :=
  .next (captureFrame cfg v times s)

/-- `AT_TX_FRAME`. -/
def execAtTxFrame (v : Byte) (tReq tRel : Nat) (edges : List (Bit × Nat)) (s : State) :
    Host.Outcome State Fault Refusal :=
  .next (sendFrame cfg v tReq tRel edges s)

/-- `XT_FRAME9`. -/
def execXtFrame9 (v : Byte) (passes : List (Bit × Nat)) (s : State) : Host.Outcome State Fault Refusal :=
  .next (transmitFrame cfg .nine v passes s)

/-- `XT_FRAME10`. -/
def execXtFrame10 (v : Byte) (passes : List (Bit × Nat)) (s : State) : Host.Outcome State Fault Refusal :=
  .next (transmitFrame cfg .ten v passes s)

end Sys2Proof.Machine
end

