-- ==== Sys2Proof/Machine/Translator.lean ====
section
/-! DEFINITION. `scan_code_translator`: translation of AT Set 2 bytes to XT Set 1 bytes (R190 to R196). Each
operation gives the list it returns and the state after it. -/

namespace Sys2Proof.Machine

/-- `XL.PREFIX_E0` (R191). -/
def xlPrefixE0 (s : State) : List Byte × State := ([], s.withTr { s.tr with ext := true })

/-- `XL.PREFIX_F0` (R192). -/
def xlPrefixF0 (s : State) : List Byte × State := ([], s.withTr { s.tr with brk := true })

/-- Both mode bits cleared, Indicator State kept (R193, R194). -/
def clearModeBits (s : State) : State := s.withTr { s.tr with ext := false, brk := false }

/-- The effect of `XL.DATA` with output list `xs` (R193). -/
def xlOutput (xs : List Byte) (s : State) : List Byte × State := (xs, clearModeBits s)

/-- The effect of `XL.UNKNOWN` (R194). -/
def xlUnknown (c : Cfg) (s : State) : List Byte × State := ([], clearModeBits (raise c .unknownScanCode s))

/-- `translate(b)` (R190). -/
def translate (c : Cfg) (b : Byte) (s : State) : List Byte × State :=
  if b = 0xE0#8 then xlPrefixE0 s
  else if b = 0xF0#8 then xlPrefixF0 s
  else match c.xlat s.tr.ext s.tr.brk b with
    | some xs => xlOutput xs s
    | none => xlUnknown c s

/-- The state after an operation run on its own, with what it returned (log 5). -/
def returning (r : List Byte × State) : Host.Outcome State Fault Refusal := .next (r.2.withRet (.bytes r.1))

/-- `XL.PREFIX_E0`. -/
def execXlPrefixE0 (s : State) : Host.Outcome State Fault Refusal := returning (xlPrefixE0 s)

/-- `XL.PREFIX_F0`. -/
def execXlPrefixF0 (s : State) : Host.Outcome State Fault Refusal := returning (xlPrefixF0 s)

/-- `XL.DATA(b, xs)`, guarded by the table's answer `some xs` for the data byte `b` (R193, R12). -/
def runXlData (c : Cfg) (b : Byte) (xs : List Byte) (s : State) : Host.Outcome State Fault Refusal :=
  if !isPrefixByte b ∧ c.xlat s.tr.ext s.tr.brk b = some xs then returning (xlOutput xs s) else .next s

/-- `XL.UNKNOWN(b)`, guarded by the table having no entry for the data byte `b` (R194, R12). -/
def runXlUnknown (c : Cfg) (b : Byte) (s : State) : Host.Outcome State Fault Refusal :=
  if !isPrefixByte b ∧ c.xlat s.tr.ext s.tr.brk b = none then returning (xlUnknown c s) else .next s

/-- `XL.DATA`. -/
def execXlData (b : Byte) (xs : List Byte) (s : State) : Host.Outcome State Fault Refusal := runXlData cfg b xs s

/-- `XL.UNKNOWN`. -/
def execXlUnknown (b : Byte) (s : State) : Host.Outcome State Fault Refusal := runXlUnknown cfg b s

/-- `PREFIX_E0`, the payload byte 0xE0: it sets `S.tr.ext` (R86, R191). -/
def execPrefixE0 (s : State) : Host.Outcome State Fault Refusal := returning (xlPrefixE0 s)

/-- `PREFIX_F0`, the payload byte 0xF0: it sets `S.tr.brk` (R86, R192). -/
def execPrefixF0 (s : State) : Host.Outcome State Fault Refusal := returning (xlPrefixF0 s)

/-- A Translation Table entry of the page `ext` with the given make byte: on its page it returns the make byte, or
the break byte when `break-pending` is set, and clears the mode bits; on the other page it is not the entry that is
selected and has no effect (R92, R93, R193, R12; log 12). -/
def keyEntry (ext : Bit) (make : Byte) (s : State) : Host.Outcome State Fault Refusal :=
  if s.tr.ext = ext then returning (xlOutput [if s.tr.brk then breakOf make else make] s) else .next s

end Sys2Proof.Machine
end

