-- ==== Sys2Proof/Machine/Keys.lean ====
section
/-! DEFINITION. The 108 entries of the default Translation Table as instructions, each by its page and its make byte
(R92, R93; the effect is `keyEntry`, R193). -/

namespace Sys2Proof.Machine

/-- `XLAT.PLAIN.F9` (R92). -/
def execXlatPlainF9 (s : State) : Host.Outcome State Fault Refusal := keyEntry false 0x43#8 s

/-- `XLAT.PLAIN.F5` (R92). -/
def execXlatPlainF5 (s : State) : Host.Outcome State Fault Refusal := keyEntry false 0x3F#8 s

/-- `XLAT.PLAIN.F3` (R92). -/
def execXlatPlainF3 (s : State) : Host.Outcome State Fault Refusal := keyEntry false 0x3D#8 s

/-- `XLAT.PLAIN.F1` (R92). -/
def execXlatPlainF1 (s : State) : Host.Outcome State Fault Refusal := keyEntry false 0x3B#8 s

/-- `XLAT.PLAIN.F2` (R92). -/
def execXlatPlainF2 (s : State) : Host.Outcome State Fault Refusal := keyEntry false 0x3C#8 s

/-- `XLAT.PLAIN.F12` (R92). -/
def execXlatPlainF12 (s : State) : Host.Outcome State Fault Refusal := keyEntry false 0x58#8 s

/-- `XLAT.PLAIN.F10` (R92). -/
def execXlatPlainF10 (s : State) : Host.Outcome State Fault Refusal := keyEntry false 0x44#8 s

/-- `XLAT.PLAIN.F8` (R92). -/
def execXlatPlainF8 (s : State) : Host.Outcome State Fault Refusal := keyEntry false 0x42#8 s

/-- `XLAT.PLAIN.F6` (R92). -/
def execXlatPlainF6 (s : State) : Host.Outcome State Fault Refusal := keyEntry false 0x40#8 s

/-- `XLAT.PLAIN.F4` (R92). -/
def execXlatPlainF4 (s : State) : Host.Outcome State Fault Refusal := keyEntry false 0x3E#8 s

/-- `XLAT.PLAIN.Tab` (R92). -/
def execXlatPlainTab (s : State) : Host.Outcome State Fault Refusal := keyEntry false 0x0F#8 s

/-- `XLAT.PLAIN.Backquote` (R92). -/
def execXlatPlainBackquote (s : State) : Host.Outcome State Fault Refusal := keyEntry false 0x29#8 s

/-- `XLAT.PLAIN.LAlt` (R92). -/
def execXlatPlainLAlt (s : State) : Host.Outcome State Fault Refusal := keyEntry false 0x38#8 s

/-- `XLAT.PLAIN.LShift` (R92). -/
def execXlatPlainLShift (s : State) : Host.Outcome State Fault Refusal := keyEntry false 0x2A#8 s

/-- `XLAT.PLAIN.LCtrl` (R92). -/
def execXlatPlainLCtrl (s : State) : Host.Outcome State Fault Refusal := keyEntry false 0x1D#8 s

/-- `XLAT.PLAIN.Q` (R92). -/
def execXlatPlainQ (s : State) : Host.Outcome State Fault Refusal := keyEntry false 0x10#8 s

/-- `XLAT.PLAIN.1` (R92). -/
def execXlatPlain1 (s : State) : Host.Outcome State Fault Refusal := keyEntry false 0x02#8 s

/-- `XLAT.PLAIN.Z` (R92). -/
def execXlatPlainZ (s : State) : Host.Outcome State Fault Refusal := keyEntry false 0x2C#8 s

/-- `XLAT.PLAIN.S` (R92). -/
def execXlatPlainS (s : State) : Host.Outcome State Fault Refusal := keyEntry false 0x1F#8 s

/-- `XLAT.PLAIN.A` (R92). -/
def execXlatPlainA (s : State) : Host.Outcome State Fault Refusal := keyEntry false 0x1E#8 s

/-- `XLAT.PLAIN.W` (R92). -/
def execXlatPlainW (s : State) : Host.Outcome State Fault Refusal := keyEntry false 0x11#8 s

/-- `XLAT.PLAIN.2` (R92). -/
def execXlatPlain2 (s : State) : Host.Outcome State Fault Refusal := keyEntry false 0x03#8 s

/-- `XLAT.PLAIN.C` (R92). -/
def execXlatPlainC (s : State) : Host.Outcome State Fault Refusal := keyEntry false 0x2E#8 s

/-- `XLAT.PLAIN.X` (R92). -/
def execXlatPlainX (s : State) : Host.Outcome State Fault Refusal := keyEntry false 0x2D#8 s

/-- `XLAT.PLAIN.D` (R92). -/
def execXlatPlainD (s : State) : Host.Outcome State Fault Refusal := keyEntry false 0x20#8 s

/-- `XLAT.PLAIN.E` (R92). -/
def execXlatPlainE (s : State) : Host.Outcome State Fault Refusal := keyEntry false 0x12#8 s

/-- `XLAT.PLAIN.4` (R92). -/
def execXlatPlain4 (s : State) : Host.Outcome State Fault Refusal := keyEntry false 0x05#8 s

/-- `XLAT.PLAIN.3` (R92). -/
def execXlatPlain3 (s : State) : Host.Outcome State Fault Refusal := keyEntry false 0x04#8 s

/-- `XLAT.PLAIN.Space` (R92). -/
def execXlatPlainSpace (s : State) : Host.Outcome State Fault Refusal := keyEntry false 0x39#8 s

/-- `XLAT.PLAIN.V` (R92). -/
def execXlatPlainV (s : State) : Host.Outcome State Fault Refusal := keyEntry false 0x2F#8 s

/-- `XLAT.PLAIN.F` (R92). -/
def execXlatPlainF (s : State) : Host.Outcome State Fault Refusal := keyEntry false 0x21#8 s

/-- `XLAT.PLAIN.T` (R92). -/
def execXlatPlainT (s : State) : Host.Outcome State Fault Refusal := keyEntry false 0x14#8 s

/-- `XLAT.PLAIN.R` (R92). -/
def execXlatPlainR (s : State) : Host.Outcome State Fault Refusal := keyEntry false 0x13#8 s

/-- `XLAT.PLAIN.5` (R92). -/
def execXlatPlain5 (s : State) : Host.Outcome State Fault Refusal := keyEntry false 0x06#8 s

/-- `XLAT.PLAIN.N` (R92). -/
def execXlatPlainN (s : State) : Host.Outcome State Fault Refusal := keyEntry false 0x31#8 s

/-- `XLAT.PLAIN.B` (R92). -/
def execXlatPlainB (s : State) : Host.Outcome State Fault Refusal := keyEntry false 0x30#8 s

/-- `XLAT.PLAIN.H` (R92). -/
def execXlatPlainH (s : State) : Host.Outcome State Fault Refusal := keyEntry false 0x23#8 s

/-- `XLAT.PLAIN.G` (R92). -/
def execXlatPlainG (s : State) : Host.Outcome State Fault Refusal := keyEntry false 0x22#8 s

/-- `XLAT.PLAIN.Y` (R92). -/
def execXlatPlainY (s : State) : Host.Outcome State Fault Refusal := keyEntry false 0x15#8 s

/-- `XLAT.PLAIN.6` (R92). -/
def execXlatPlain6 (s : State) : Host.Outcome State Fault Refusal := keyEntry false 0x07#8 s

/-- `XLAT.PLAIN.M` (R92). -/
def execXlatPlainM (s : State) : Host.Outcome State Fault Refusal := keyEntry false 0x32#8 s

/-- `XLAT.PLAIN.J` (R92). -/
def execXlatPlainJ (s : State) : Host.Outcome State Fault Refusal := keyEntry false 0x24#8 s

/-- `XLAT.PLAIN.U` (R92). -/
def execXlatPlainU (s : State) : Host.Outcome State Fault Refusal := keyEntry false 0x16#8 s

/-- `XLAT.PLAIN.7` (R92). -/
def execXlatPlain7 (s : State) : Host.Outcome State Fault Refusal := keyEntry false 0x08#8 s

/-- `XLAT.PLAIN.8` (R92). -/
def execXlatPlain8 (s : State) : Host.Outcome State Fault Refusal := keyEntry false 0x09#8 s

/-- `XLAT.PLAIN.Comma` (R92). -/
def execXlatPlainComma (s : State) : Host.Outcome State Fault Refusal := keyEntry false 0x33#8 s

/-- `XLAT.PLAIN.K` (R92). -/
def execXlatPlainK (s : State) : Host.Outcome State Fault Refusal := keyEntry false 0x25#8 s

/-- `XLAT.PLAIN.I` (R92). -/
def execXlatPlainI (s : State) : Host.Outcome State Fault Refusal := keyEntry false 0x17#8 s

/-- `XLAT.PLAIN.O` (R92). -/
def execXlatPlainO (s : State) : Host.Outcome State Fault Refusal := keyEntry false 0x18#8 s

/-- `XLAT.PLAIN.0` (R92). -/
def execXlatPlain0 (s : State) : Host.Outcome State Fault Refusal := keyEntry false 0x0B#8 s

/-- `XLAT.PLAIN.9` (R92). -/
def execXlatPlain9 (s : State) : Host.Outcome State Fault Refusal := keyEntry false 0x0A#8 s

/-- `XLAT.PLAIN.Period` (R92). -/
def execXlatPlainPeriod (s : State) : Host.Outcome State Fault Refusal := keyEntry false 0x34#8 s

/-- `XLAT.PLAIN.Slash` (R92). -/
def execXlatPlainSlash (s : State) : Host.Outcome State Fault Refusal := keyEntry false 0x35#8 s

/-- `XLAT.PLAIN.L` (R92). -/
def execXlatPlainL (s : State) : Host.Outcome State Fault Refusal := keyEntry false 0x26#8 s

/-- `XLAT.PLAIN.Semicolon` (R92). -/
def execXlatPlainSemicolon (s : State) : Host.Outcome State Fault Refusal := keyEntry false 0x27#8 s

/-- `XLAT.PLAIN.P` (R92). -/
def execXlatPlainP (s : State) : Host.Outcome State Fault Refusal := keyEntry false 0x19#8 s

/-- `XLAT.PLAIN.Minus` (R92). -/
def execXlatPlainMinus (s : State) : Host.Outcome State Fault Refusal := keyEntry false 0x0C#8 s

/-- `XLAT.PLAIN.Quote` (R92). -/
def execXlatPlainQuote (s : State) : Host.Outcome State Fault Refusal := keyEntry false 0x28#8 s

/-- `XLAT.PLAIN.LBracket` (R92). -/
def execXlatPlainLBracket (s : State) : Host.Outcome State Fault Refusal := keyEntry false 0x1A#8 s

/-- `XLAT.PLAIN.Equal` (R92). -/
def execXlatPlainEqual (s : State) : Host.Outcome State Fault Refusal := keyEntry false 0x0D#8 s

/-- `XLAT.PLAIN.CapsLock` (R92). -/
def execXlatPlainCapsLock (s : State) : Host.Outcome State Fault Refusal := keyEntry false 0x3A#8 s

/-- `XLAT.PLAIN.RShift` (R92). -/
def execXlatPlainRShift (s : State) : Host.Outcome State Fault Refusal := keyEntry false 0x36#8 s

/-- `XLAT.PLAIN.Enter` (R92). -/
def execXlatPlainEnter (s : State) : Host.Outcome State Fault Refusal := keyEntry false 0x1C#8 s

/-- `XLAT.PLAIN.RBracket` (R92). -/
def execXlatPlainRBracket (s : State) : Host.Outcome State Fault Refusal := keyEntry false 0x1B#8 s

/-- `XLAT.PLAIN.Backslash` (R92). -/
def execXlatPlainBackslash (s : State) : Host.Outcome State Fault Refusal := keyEntry false 0x2B#8 s

/-- `XLAT.PLAIN.Iso102` (R92). -/
def execXlatPlainIso102 (s : State) : Host.Outcome State Fault Refusal := keyEntry false 0x56#8 s

/-- `XLAT.PLAIN.Backspace` (R92). -/
def execXlatPlainBackspace (s : State) : Host.Outcome State Fault Refusal := keyEntry false 0x0E#8 s

/-- `XLAT.PLAIN.KP1` (R92). -/
def execXlatPlainKP1 (s : State) : Host.Outcome State Fault Refusal := keyEntry false 0x4F#8 s

/-- `XLAT.PLAIN.KP4` (R92). -/
def execXlatPlainKP4 (s : State) : Host.Outcome State Fault Refusal := keyEntry false 0x4B#8 s

/-- `XLAT.PLAIN.KP7` (R92). -/
def execXlatPlainKP7 (s : State) : Host.Outcome State Fault Refusal := keyEntry false 0x47#8 s

/-- `XLAT.PLAIN.KP0` (R92). -/
def execXlatPlainKP0 (s : State) : Host.Outcome State Fault Refusal := keyEntry false 0x52#8 s

/-- `XLAT.PLAIN.KPDot` (R92). -/
def execXlatPlainKPDot (s : State) : Host.Outcome State Fault Refusal := keyEntry false 0x53#8 s

/-- `XLAT.PLAIN.KP2` (R92). -/
def execXlatPlainKP2 (s : State) : Host.Outcome State Fault Refusal := keyEntry false 0x50#8 s

/-- `XLAT.PLAIN.KP5` (R92). -/
def execXlatPlainKP5 (s : State) : Host.Outcome State Fault Refusal := keyEntry false 0x4C#8 s

/-- `XLAT.PLAIN.KP6` (R92). -/
def execXlatPlainKP6 (s : State) : Host.Outcome State Fault Refusal := keyEntry false 0x4D#8 s

/-- `XLAT.PLAIN.KP8` (R92). -/
def execXlatPlainKP8 (s : State) : Host.Outcome State Fault Refusal := keyEntry false 0x48#8 s

/-- `XLAT.PLAIN.Esc` (R92). -/
def execXlatPlainEsc (s : State) : Host.Outcome State Fault Refusal := keyEntry false 0x01#8 s

/-- `XLAT.PLAIN.NumLock` (R92). -/
def execXlatPlainNumLock (s : State) : Host.Outcome State Fault Refusal := keyEntry false 0x45#8 s

/-- `XLAT.PLAIN.F11` (R92). -/
def execXlatPlainF11 (s : State) : Host.Outcome State Fault Refusal := keyEntry false 0x57#8 s

/-- `XLAT.PLAIN.KPPlus` (R92). -/
def execXlatPlainKPPlus (s : State) : Host.Outcome State Fault Refusal := keyEntry false 0x4E#8 s

/-- `XLAT.PLAIN.KP3` (R92). -/
def execXlatPlainKP3 (s : State) : Host.Outcome State Fault Refusal := keyEntry false 0x51#8 s

/-- `XLAT.PLAIN.KPMinus` (R92). -/
def execXlatPlainKPMinus (s : State) : Host.Outcome State Fault Refusal := keyEntry false 0x4A#8 s

/-- `XLAT.PLAIN.KPStar` (R92). -/
def execXlatPlainKPStar (s : State) : Host.Outcome State Fault Refusal := keyEntry false 0x37#8 s

/-- `XLAT.PLAIN.KP9` (R92). -/
def execXlatPlainKP9 (s : State) : Host.Outcome State Fault Refusal := keyEntry false 0x49#8 s

/-- `XLAT.PLAIN.ScrollLock` (R92). -/
def execXlatPlainScrollLock (s : State) : Host.Outcome State Fault Refusal := keyEntry false 0x46#8 s

/-- `XLAT.PLAIN.F7` (R92). -/
def execXlatPlainF7 (s : State) : Host.Outcome State Fault Refusal := keyEntry false 0x41#8 s

/-- `XLAT.PLAIN.AltSysRq` (R92). -/
def execXlatPlainAltSysRq (s : State) : Host.Outcome State Fault Refusal := keyEntry false 0x54#8 s

/-- `XLAT.EXT.RAlt` (R93). -/
def execXlatExtRAlt (s : State) : Host.Outcome State Fault Refusal := keyEntry true 0x38#8 s

/-- `XLAT.EXT.FakeLShift` (R93). -/
def execXlatExtFakeLShift (s : State) : Host.Outcome State Fault Refusal := keyEntry true 0x2A#8 s

/-- `XLAT.EXT.RCtrl` (R93). -/
def execXlatExtRCtrl (s : State) : Host.Outcome State Fault Refusal := keyEntry true 0x1D#8 s

/-- `XLAT.EXT.LGui` (R93). -/
def execXlatExtLGui (s : State) : Host.Outcome State Fault Refusal := keyEntry true 0x5B#8 s

/-- `XLAT.EXT.RGui` (R93). -/
def execXlatExtRGui (s : State) : Host.Outcome State Fault Refusal := keyEntry true 0x5C#8 s

/-- `XLAT.EXT.Apps` (R93). -/
def execXlatExtApps (s : State) : Host.Outcome State Fault Refusal := keyEntry true 0x5D#8 s

/-- `XLAT.EXT.KPSlash` (R93). -/
def execXlatExtKPSlash (s : State) : Host.Outcome State Fault Refusal := keyEntry true 0x35#8 s

/-- `XLAT.EXT.FakeRShift` (R93). -/
def execXlatExtFakeRShift (s : State) : Host.Outcome State Fault Refusal := keyEntry true 0x36#8 s

/-- `XLAT.EXT.KPEnter` (R93). -/
def execXlatExtKPEnter (s : State) : Host.Outcome State Fault Refusal := keyEntry true 0x1C#8 s

/-- `XLAT.EXT.End` (R93). -/
def execXlatExtEnd (s : State) : Host.Outcome State Fault Refusal := keyEntry true 0x4F#8 s

/-- `XLAT.EXT.Left` (R93). -/
def execXlatExtLeft (s : State) : Host.Outcome State Fault Refusal := keyEntry true 0x4B#8 s

/-- `XLAT.EXT.Home` (R93). -/
def execXlatExtHome (s : State) : Host.Outcome State Fault Refusal := keyEntry true 0x47#8 s

/-- `XLAT.EXT.Insert` (R93). -/
def execXlatExtInsert (s : State) : Host.Outcome State Fault Refusal := keyEntry true 0x52#8 s

/-- `XLAT.EXT.Delete` (R93). -/
def execXlatExtDelete (s : State) : Host.Outcome State Fault Refusal := keyEntry true 0x53#8 s

/-- `XLAT.EXT.Down` (R93). -/
def execXlatExtDown (s : State) : Host.Outcome State Fault Refusal := keyEntry true 0x50#8 s

/-- `XLAT.EXT.Right` (R93). -/
def execXlatExtRight (s : State) : Host.Outcome State Fault Refusal := keyEntry true 0x4D#8 s

/-- `XLAT.EXT.Up` (R93). -/
def execXlatExtUp (s : State) : Host.Outcome State Fault Refusal := keyEntry true 0x48#8 s

/-- `XLAT.EXT.PageDown` (R93). -/
def execXlatExtPageDown (s : State) : Host.Outcome State Fault Refusal := keyEntry true 0x51#8 s

/-- `XLAT.EXT.PrintScreen` (R93). -/
def execXlatExtPrintScreen (s : State) : Host.Outcome State Fault Refusal := keyEntry true 0x37#8 s

/-- `XLAT.EXT.PageUp` (R93). -/
def execXlatExtPageUp (s : State) : Host.Outcome State Fault Refusal := keyEntry true 0x49#8 s

/-- `XLAT.EXT.CtrlBreak` (R93). -/
def execXlatExtCtrlBreak (s : State) : Host.Outcome State Fault Refusal := keyEntry true 0x46#8 s

end Sys2Proof.Machine
end

