-- ==== Sys2Proof/Machine/Loop.lean ====
section
/-! DEFINITION. The Dispatch Loop, the timer-driven sampler and the reset: `DISPATCH.PASS`, `LINK.TICK_SAMPLE` and
`SYS.RESET` (R113, R226 to R230, R280). -/

namespace Sys2Proof.Machine

/-- Step 0 of a pass: timeouts of the AT bus, found by polling (R226). -/
def pollDeadline (c : Cfg) (ts : Nat) (s : State) : State :=
  if expired s.atBus.deadline ts then
    if s.atBus.st.isFrameReceive then rxTimeout c ts s else txTimeout c ts s
  else s

/-- Step 1 of a pass: pop one Frame and translate its payload, only when the previous translation has been handed
over entirely (R226, D18). -/
def popAndTranslate (c : Cfg) (s : State) : State :=
  if s.xtBus.st = .idle ∧ s.xtPending = [] then
    match queuePop s with
    | (none, t) => t
    | (some f, t) => (translate c f.payload t).2.withXtPending (translate c f.payload t).1
  else s

/-- The first half of step 2 of a pass: the oldest pending byte is loaded (R226). -/
def loadPending (s : State) : State :=
  match s.xtPending with
  | [] => s
  | b :: rest => if s.xtBus.st = .idle then (xtLoad b s).withXtPending rest else s

/-- Step 4 of a pass: the loop sleeps exactly when the core is quiescent (R226, R227). -/
def goToSleep (s : State) : State := s.withAsleep (quiescent s)

/-- `DISPATCH.PASS(at_clk, at_data, xt_clk, ts)`, one whole iteration; `at_data` is used by no rule (R226). `none`
in the unreachable state of V9 (log 9). -/
def dispatchPass (c : Cfg) (atClk _atData xtClk : Bit) (ts : Nat) (s : State) : Option State :=
  if s.asleep then some s
  else (brService c atClk ts (xtStep c xtClk ts (loadPending (popAndTranslate c (pollDeadline c ts s))))).map goToSleep

/-- The sampling half of `LINK.TICK_SAMPLE`: a 1-to-0 change of the sampled AT clock is a falling edge (R113). The
levels are those the core reads (R43, `readEvent`). -/
def sampleEdge (c : Cfg) (atClk atData : Bit) (ts : Nat) (s : State) : State :=
  let t := s.withAsleep false
  (if t.atClkPrev && !atClk then onEdge c false atData ts t else t).withAtClkPrev atClk

/-- `LINK.TICK_SAMPLE(at_clk, at_data, xt_clk, ts)`, guarded by `Timer` mode (R113, R12). -/
def tickSample (c : Cfg) (atClk atData xtClk : Bit) (ts : Nat) (s : State) : Option State :=
  if c.samplingMode = .timer then dispatchPass c atClk atData xtClk ts (sampleEdge c atClk atData ts s) else some s

/-- `SYS.RESET`: every field of `S` at its reset value; what the environment delivers next is not the core's state
(R280, log 24). -/
def sysReset (s : State) : State := State.reset.withInputs s.inputs

/-- `DISPATCH.PASS`. -/
def execDispatchPass (atClk atData xtClk : Bit) (ts : Nat) (s : State) : Host.Outcome State Fault Refusal :=
  serviced (dispatchPass cfg atClk atData xtClk ts s)

/-- `LINK.TICK_SAMPLE`. -/
def execLinkTickSample (atClk atData xtClk : Bit) (ts : Nat) (s : State) : Host.Outcome State Fault Refusal :=
  serviced (tickSample cfg atClk atData xtClk ts s)

/-- `SYS.RESET`. -/
def execSysReset (s : State) : Host.Outcome State Fault Refusal := .next (sysReset s)

end Sys2Proof.Machine
end

