-- ==== Sys2Proof/Machine/Dispatch.lean ====
section
/-! DEFINITION. What each instruction does: one arm per constructor of `Instr`, one meaning per arm. -/

namespace Sys2Proof.Machine

def exec (i : Instr) (s : State) : Host.Outcome State Fault Refusal :=
  match i with
  | .linkOnEdge level data ts => Sys2Proof.Machine.execLinkOnEdge level data ts s
  | .linkSendBit bus value => Sys2Proof.Machine.execLinkSendBit bus value s
  | .linkIsInhibited bus clkIn => Sys2Proof.Machine.execLinkIsInhibited bus clkIn s
  | .linkTickSample atClk atData xtClk ts => Sys2Proof.Machine.execLinkTickSample atClk atData xtClk ts s
  | .linkXtEdge level ts => Sys2Proof.Machine.execLinkXtEdge level ts s
  | .rxStart data ts => Sys2Proof.Machine.execRxStart data ts s
  | .rxData k data ts => Sys2Proof.Machine.execRxData k data ts s
  | .rxParity data ts => Sys2Proof.Machine.execRxParity data ts s
  | .rxStop data ts => Sys2Proof.Machine.execRxStop data ts s
  | .rxTimeout ts => Sys2Proof.Machine.execRxTimeout ts s
  | .txRequest atClk ts => Sys2Proof.Machine.execTxRequest atClk ts s
  | .txRelease ts => Sys2Proof.Machine.execTxRelease ts s
  | .txHoldEdge => Sys2Proof.Machine.execTxHoldEdge s
  | .txBit k ts => Sys2Proof.Machine.execTxBit k ts s
  | .txAck data ts => Sys2Proof.Machine.execTxAck data ts s
  | .txTimeout ts => Sys2Proof.Machine.execTxTimeout ts s
  | .xtLoad b => Sys2Proof.Machine.execXtLoad b s
  | .xtStep xtClk ts => Sys2Proof.Machine.execXtStep xtClk ts s
  | .xlPrefixE0 => Sys2Proof.Machine.execXlPrefixE0 s
  | .xlPrefixF0 => Sys2Proof.Machine.execXlPrefixF0 s
  | .xlData b xs => Sys2Proof.Machine.execXlData b xs s
  | .xlUnknown b => Sys2Proof.Machine.execXlUnknown b s
  | .brSetIndicators mask => Sys2Proof.Machine.execBrSetIndicators mask s
  | .brReset => Sys2Proof.Machine.execBrReset s
  | .brService atClk ts => Sys2Proof.Machine.execBrService atClk ts s
  | .qPush f => Sys2Proof.Machine.execQPush f s
  | .qPop => Sys2Proof.Machine.execQPop s
  | .dispatchPass atClk atData xtClk ts => Sys2Proof.Machine.execDispatchPass atClk atData xtClk ts s
  | .sysReset => Sys2Proof.Machine.execSysReset s
  | .atRxFrame v times => Sys2Proof.Machine.execAtRxFrame v times s
  | .atTxFrame v tReq tRel edges => Sys2Proof.Machine.execAtTxFrame v tReq tRel edges s
  | .xtFrame9 v passes => Sys2Proof.Machine.execXtFrame9 v passes s
  | .xtFrame10 v passes => Sys2Proof.Machine.execXtFrame10 v passes s
  | .prefixE0 => Sys2Proof.Machine.execPrefixE0 s
  | .prefixF0 => Sys2Proof.Machine.execPrefixF0 s
  | .cmdSetLeds => Sys2Proof.Machine.execCmdSetLeds s
  | .cmdReset => Sys2Proof.Machine.execCmdReset s
  | .xlatPlainF9 => Sys2Proof.Machine.execXlatPlainF9 s
  | .xlatPlainF5 => Sys2Proof.Machine.execXlatPlainF5 s
  | .xlatPlainF3 => Sys2Proof.Machine.execXlatPlainF3 s
  | .xlatPlainF1 => Sys2Proof.Machine.execXlatPlainF1 s
  | .xlatPlainF2 => Sys2Proof.Machine.execXlatPlainF2 s
  | .xlatPlainF12 => Sys2Proof.Machine.execXlatPlainF12 s
  | .xlatPlainF10 => Sys2Proof.Machine.execXlatPlainF10 s
  | .xlatPlainF8 => Sys2Proof.Machine.execXlatPlainF8 s
  | .xlatPlainF6 => Sys2Proof.Machine.execXlatPlainF6 s
  | .xlatPlainF4 => Sys2Proof.Machine.execXlatPlainF4 s
  | .xlatPlainTab => Sys2Proof.Machine.execXlatPlainTab s
  | .xlatPlainBackquote => Sys2Proof.Machine.execXlatPlainBackquote s
  | .xlatPlainLAlt => Sys2Proof.Machine.execXlatPlainLAlt s
  | .xlatPlainLShift => Sys2Proof.Machine.execXlatPlainLShift s
  | .xlatPlainLCtrl => Sys2Proof.Machine.execXlatPlainLCtrl s
  | .xlatPlainQ => Sys2Proof.Machine.execXlatPlainQ s
  | .xlatPlain1 => Sys2Proof.Machine.execXlatPlain1 s
  | .xlatPlainZ => Sys2Proof.Machine.execXlatPlainZ s
  | .xlatPlainS => Sys2Proof.Machine.execXlatPlainS s
  | .xlatPlainA => Sys2Proof.Machine.execXlatPlainA s
  | .xlatPlainW => Sys2Proof.Machine.execXlatPlainW s
  | .xlatPlain2 => Sys2Proof.Machine.execXlatPlain2 s
  | .xlatPlainC => Sys2Proof.Machine.execXlatPlainC s
  | .xlatPlainX => Sys2Proof.Machine.execXlatPlainX s
  | .xlatPlainD => Sys2Proof.Machine.execXlatPlainD s
  | .xlatPlainE => Sys2Proof.Machine.execXlatPlainE s
  | .xlatPlain4 => Sys2Proof.Machine.execXlatPlain4 s
  | .xlatPlain3 => Sys2Proof.Machine.execXlatPlain3 s
  | .xlatPlainSpace => Sys2Proof.Machine.execXlatPlainSpace s
  | .xlatPlainV => Sys2Proof.Machine.execXlatPlainV s
  | .xlatPlainF => Sys2Proof.Machine.execXlatPlainF s
  | .xlatPlainT => Sys2Proof.Machine.execXlatPlainT s
  | .xlatPlainR => Sys2Proof.Machine.execXlatPlainR s
  | .xlatPlain5 => Sys2Proof.Machine.execXlatPlain5 s
  | .xlatPlainN => Sys2Proof.Machine.execXlatPlainN s
  | .xlatPlainB => Sys2Proof.Machine.execXlatPlainB s
  | .xlatPlainH => Sys2Proof.Machine.execXlatPlainH s
  | .xlatPlainG => Sys2Proof.Machine.execXlatPlainG s
  | .xlatPlainY => Sys2Proof.Machine.execXlatPlainY s
  | .xlatPlain6 => Sys2Proof.Machine.execXlatPlain6 s
  | .xlatPlainM => Sys2Proof.Machine.execXlatPlainM s
  | .xlatPlainJ => Sys2Proof.Machine.execXlatPlainJ s
  | .xlatPlainU => Sys2Proof.Machine.execXlatPlainU s
  | .xlatPlain7 => Sys2Proof.Machine.execXlatPlain7 s
  | .xlatPlain8 => Sys2Proof.Machine.execXlatPlain8 s
  | .xlatPlainComma => Sys2Proof.Machine.execXlatPlainComma s
  | .xlatPlainK => Sys2Proof.Machine.execXlatPlainK s
  | .xlatPlainI => Sys2Proof.Machine.execXlatPlainI s
  | .xlatPlainO => Sys2Proof.Machine.execXlatPlainO s
  | .xlatPlain0 => Sys2Proof.Machine.execXlatPlain0 s
  | .xlatPlain9 => Sys2Proof.Machine.execXlatPlain9 s
  | .xlatPlainPeriod => Sys2Proof.Machine.execXlatPlainPeriod s
  | .xlatPlainSlash => Sys2Proof.Machine.execXlatPlainSlash s
  | .xlatPlainL => Sys2Proof.Machine.execXlatPlainL s
  | .xlatPlainSemicolon => Sys2Proof.Machine.execXlatPlainSemicolon s
  | .xlatPlainP => Sys2Proof.Machine.execXlatPlainP s
  | .xlatPlainMinus => Sys2Proof.Machine.execXlatPlainMinus s
  | .xlatPlainQuote => Sys2Proof.Machine.execXlatPlainQuote s
  | .xlatPlainLBracket => Sys2Proof.Machine.execXlatPlainLBracket s
  | .xlatPlainEqual => Sys2Proof.Machine.execXlatPlainEqual s
  | .xlatPlainCapsLock => Sys2Proof.Machine.execXlatPlainCapsLock s
  | .xlatPlainRShift => Sys2Proof.Machine.execXlatPlainRShift s
  | .xlatPlainEnter => Sys2Proof.Machine.execXlatPlainEnter s
  | .xlatPlainRBracket => Sys2Proof.Machine.execXlatPlainRBracket s
  | .xlatPlainBackslash => Sys2Proof.Machine.execXlatPlainBackslash s
  | .xlatPlainIso102 => Sys2Proof.Machine.execXlatPlainIso102 s
  | .xlatPlainBackspace => Sys2Proof.Machine.execXlatPlainBackspace s
  | .xlatPlainKP1 => Sys2Proof.Machine.execXlatPlainKP1 s
  | .xlatPlainKP4 => Sys2Proof.Machine.execXlatPlainKP4 s
  | .xlatPlainKP7 => Sys2Proof.Machine.execXlatPlainKP7 s
  | .xlatPlainKP0 => Sys2Proof.Machine.execXlatPlainKP0 s
  | .xlatPlainKPDot => Sys2Proof.Machine.execXlatPlainKPDot s
  | .xlatPlainKP2 => Sys2Proof.Machine.execXlatPlainKP2 s
  | .xlatPlainKP5 => Sys2Proof.Machine.execXlatPlainKP5 s
  | .xlatPlainKP6 => Sys2Proof.Machine.execXlatPlainKP6 s
  | .xlatPlainKP8 => Sys2Proof.Machine.execXlatPlainKP8 s
  | .xlatPlainEsc => Sys2Proof.Machine.execXlatPlainEsc s
  | .xlatPlainNumLock => Sys2Proof.Machine.execXlatPlainNumLock s
  | .xlatPlainF11 => Sys2Proof.Machine.execXlatPlainF11 s
  | .xlatPlainKPPlus => Sys2Proof.Machine.execXlatPlainKPPlus s
  | .xlatPlainKP3 => Sys2Proof.Machine.execXlatPlainKP3 s
  | .xlatPlainKPMinus => Sys2Proof.Machine.execXlatPlainKPMinus s
  | .xlatPlainKPStar => Sys2Proof.Machine.execXlatPlainKPStar s
  | .xlatPlainKP9 => Sys2Proof.Machine.execXlatPlainKP9 s
  | .xlatPlainScrollLock => Sys2Proof.Machine.execXlatPlainScrollLock s
  | .xlatPlainF7 => Sys2Proof.Machine.execXlatPlainF7 s
  | .xlatPlainAltSysRq => Sys2Proof.Machine.execXlatPlainAltSysRq s
  | .xlatExtRAlt => Sys2Proof.Machine.execXlatExtRAlt s
  | .xlatExtFakeLShift => Sys2Proof.Machine.execXlatExtFakeLShift s
  | .xlatExtRCtrl => Sys2Proof.Machine.execXlatExtRCtrl s
  | .xlatExtLGui => Sys2Proof.Machine.execXlatExtLGui s
  | .xlatExtRGui => Sys2Proof.Machine.execXlatExtRGui s
  | .xlatExtApps => Sys2Proof.Machine.execXlatExtApps s
  | .xlatExtKPSlash => Sys2Proof.Machine.execXlatExtKPSlash s
  | .xlatExtFakeRShift => Sys2Proof.Machine.execXlatExtFakeRShift s
  | .xlatExtKPEnter => Sys2Proof.Machine.execXlatExtKPEnter s
  | .xlatExtEnd => Sys2Proof.Machine.execXlatExtEnd s
  | .xlatExtLeft => Sys2Proof.Machine.execXlatExtLeft s
  | .xlatExtHome => Sys2Proof.Machine.execXlatExtHome s
  | .xlatExtInsert => Sys2Proof.Machine.execXlatExtInsert s
  | .xlatExtDelete => Sys2Proof.Machine.execXlatExtDelete s
  | .xlatExtDown => Sys2Proof.Machine.execXlatExtDown s
  | .xlatExtRight => Sys2Proof.Machine.execXlatExtRight s
  | .xlatExtUp => Sys2Proof.Machine.execXlatExtUp s
  | .xlatExtPageDown => Sys2Proof.Machine.execXlatExtPageDown s
  | .xlatExtPrintScreen => Sys2Proof.Machine.execXlatExtPrintScreen s
  | .xlatExtPageUp => Sys2Proof.Machine.execXlatExtPageUp s
  | .xlatExtCtrlBreak => Sys2Proof.Machine.execXlatExtCtrlBreak s

end Sys2Proof.Machine
end

