-- ==== Sys2Proof/Machine/Fetch.lean ====
section
/-! DEFINITION. How the machine comes by its next instruction: an event selects it (R13, R104), a stage of a pass
selects it (R226), or an encoded word decodes to it; and where a table word is placed to be fetched next. -/

namespace Sys2Proof.Machine

/-- The operation an event selects (R13, R104). -/
def selectByEvent (e : Event) : Instr :=
  match e with
  | .atEdge level data ts => .linkOnEdge level data ts
  | .xtEdge level ts => .linkXtEdge level ts
  | .tick atClk atData xtClk ts => .linkTickSample atClk atData xtClk ts
  | .pass atClk atData xtClk ts => .dispatchPass atClk atData xtClk ts
  | .hostReq (.setIndicators mask) => .brSetIndicators mask
  | .hostReq .reset => .brReset
  | .reset => .sysReset

/-- The event with the AT levels as the core reads them: a line the core pulls low reads 0 (R10, R43; log 30). -/
def readEvent (p : Pins) (e : Event) : Event :=
  match e with
  | .atEdge level data ts => .atEdge (lineRead level p.atClkLow) (lineRead data p.atDataLow) ts
  | .tick atClk atData xtClk ts => .tick (lineRead atClk p.atClkLow) (lineRead atData p.atDataLow) xtClk ts
  | .pass atClk atData xtClk ts => .pass (lineRead atClk p.atClkLow) (lineRead atData p.atDataLow) xtClk ts
  | .xtEdge level ts => .xtEdge level ts
  | .hostReq r => .hostReq r
  | .reset => .reset

/-- Which events a sampling mode has: the modes are mutually exclusive (R113, V6). -/
def admittedIn (m : SamplingMode) (e : Event) : Bool :=
  match e with
  | .atEdge .. | .xtEdge .. | .pass .. => m == .edge
  | .tick .. => m == .timer
  | .hostReq _ | .reset => true

/-- The events that begin a pass, and so wait for a pass that is being run; every other event may land between two
operations of it (R72, R250, R256). -/
def beginsPass (e : Event) : Bool :=
  match e with
  | .tick .. | .pass .. => true
  | .atEdge .. | .xtEdge .. | .hostReq _ | .reset => false

/-- The operation `translate(b)` selects in a core built with `c` and with mode bits `tr`: the row of the opcode table the
decoder reads on the page of `tr`; for a byte it rejects, `XL.DATA` with the table's own output, or `XL.UNKNOWN` where the
table has none (R94, R95, R190). -/
def selectTranslation (c : Cfg) (tr : Translator) (b : Byte) : Instr :=
  match decodePayload c tr.ext b with
  | .ok i => i
  | .error _ =>
    match c.xlat tr.ext tr.brk b with
    | some xs => .xlData b xs
    | none => .xlUnknown b

/-- The operation a stage of a pass runs, if its condition holds (R226). -/
def stageInstr (c : Cfg) (p : PassPosition) (s : State) : Option Instr :=
  match p.stage with
  | .poll =>
    if expired s.atBus.deadline p.ts then
      if s.atBus.st.isFrameReceive then some (.rxTimeout p.ts) else some (.txTimeout p.ts)
    else none
  | .pop => if s.xtBus.st = .idle ∧ s.xtPending = [] ∧ s.q ≠ [] then some .qPop else none
  | .translate =>
    match s.ret with
    | .frame f => some (selectTranslation c s.tr f.payload)
    | .nothing | .bit _ | .bytes _ => none
  | .load =>
    match s.xtPending with
    | [] => none
    | b :: _ => if s.xtBus.st = .idle then some (.xtLoad b) else none
  | .xtStep => if s.xtBus.st = .idle then none else some (.xtStep p.xtClk p.ts)
  | .service => some (.brService p.atClk p.ts)
  | .sleep => none

/-- The place after a stage, and what the loop itself writes there: the translator's output becomes `xt_pending`, a
loaded byte leaves it, and the last stage decides whether the loop sleeps (R226). `ran` says whether the stage ran
its operation. -/
def afterStage (ran : Bool) (p : PassPosition) (s : State) : State :=
  match p.stage with
  | .poll => s.withPass (some { p with stage := .pop })
  | .pop => s.withPass (some { p with stage := if ran then .translate else .load })
  | .translate =>
    match ran, s.ret with
    | true, .bytes xs => ((s.withXtPending xs).withRet .nothing).withPass (some { p with stage := .load })
    | _, _ => s.withPass (some { p with stage := .load })
  | .load =>
    (if ran then s.withXtPending s.xtPending.tail else s).withPass (some { p with stage := .xtStep })
  | .xtStep => s.withPass (some { p with stage := .service })
  | .service => s.withPass (some { p with stage := .sleep })
  | .sleep => (goToSleep s).withPass none

/-- What the machine fetched. -/
inductive Fetched where
  /-- An instruction to run, in the given state; with a place when it is the operation of a stage of a pass. -/
  | run (i : Instr) (p : Option PassPosition) (s : State)
  /-- Nothing to run: the given state is the next one. -/
  | settled (s : State)
  /-- The input is refused. -/
  | refuse (r : Refusal)

/-- The next operation of the main loop inside a pass. -/
def fetchMainLoop (c : Cfg) (p : PassPosition) (s : State) : Fetched :=
  match stageInstr c p s with
  | some i => .run i (some p) s
  | none => .settled (afterStage false p s)

/-- A pass that handlers may interrupt begins, `Edge` mode only, with the levels the core reads at that moment (R43); a
sleeping loop does nothing (R226, R113, V6). -/
def beginPass (c : Cfg) (atClk atData xtClk : Bit) (ts : Nat) (s : State) : Fetched :=
  if c.samplingMode = .edge then
    .settled (if s.asleep then s else s.withPass
      (some ⟨.poll, lineRead atClk s.pins.atClkLow, lineRead atData s.pins.atDataLow, xtClk, ts⟩))
  else .refuse .wrongSamplingMode

/-- An event is delivered, if the sampling mode has it, with the levels the core reads (R13, R43, V6). -/
def fetchEvent (c : Cfg) (e : Event) (s : State) : Fetched :=
  if admittedIn c.samplingMode e then .run (selectByEvent (readEvent s.pins e)) none s else .refuse .wrongSamplingMode

/-- A command byte is given to the command bridge (R89, log 11). -/
def fetchCommand (c : Cfg) (b : Byte) (s : State) : Fetched :=
  match decodeCommand c b with
  | .ok i => .run i none s
  | .error _ => .refuse .malformedWord

/-- A frame is transferred whole. An inbound wire string that is no legal frame still runs, edge by edge: the
receiver discards it with the error kind R97 names (log 10, log 21). DESIGN CHOICE: a frame input is not held to the
sampling mode: its edges run `LINK.ON_EDGE` (and, outbound, `TX.REQUEST` and `TX.RELEASE`) in a `Timer` core too, with
no tick, no pass and `at_clk_prev` untouched, although `AtEdge` events are refused there (R13, R105, R113, V6; log 28). -/
def fetchFrame (c : Cfg) (fmt : FrameFormat) (wire : List Bit) (sch : Schedule) (s : State) : Fetched :=
  match decodeFrame fmt wire sch with
  | .ok i => .run i none s
  | .error _ =>
    match fmt with
    | .atRx => .settled (fallingEdges c (wire.zip (sch.edges.map Prod.snd)) s)
    | .atTx | .xt => .refuse .malformedWord

/-- What an input fetches once it is taken from the list; `s` is the state without it. -/
def fetchInput (c : Cfg) (inp : Input) (s : State) : Fetched :=
  match inp with
  | .event e => fetchEvent c e s
  | .beginPass atClk atData xtClk ts => beginPass c atClk atData xtClk ts s
  | .mainLoop => .settled s
  | .commandByte b => fetchCommand c b s
  | .frame fmt wire sch => fetchFrame c fmt wire sch s

/-- The inputs that the main loop takes up only when no pass is being run; the others land between two of its
operations (R72, R256). -/
def waitsForPass (inp : Input) : Bool :=
  match inp with
  | .event e => beginsPass e
  | .beginPass .. => true
  | .mainLoop => true
  | .commandByte _ => false
  | .frame .atRx _ _ => false
  | .frame .atTx _ _ | .frame .xt _ _ => true

/-- The list of inputs after the main loop has run an operation with this input next: `mainLoop` is used up by it. -/
def keepWaiting (inp : Input) (rest : List Input) : List Input :=
  match inp with
  | .mainLoop => rest
  | .event e => .event e :: rest
  | .beginPass atClk atData xtClk ts => .beginPass atClk atData xtClk ts :: rest
  | .commandByte b => .commandByte b :: rest
  | .frame fmt wire sch => .frame fmt wire sch :: rest

/-- What a core built with `c` does next. With no input the main loop goes on with a pass it is in, or nothing happens. -/
def fetch (c : Cfg) (s : State) : Fetched :=
  match s.inputs, s.pass with
  | [], none => .settled s
  | [], some p => fetchMainLoop c p s
  | inp :: rest, none => fetchInput c inp (s.withInputs rest)
  | inp :: rest, some p =>
    if waitsForPass inp then fetchMainLoop c p (s.withInputs (keepWaiting inp rest))
    else fetchInput c inp (s.withInputs rest)

/-- The state after an instruction has run: at a stage of a pass the loop goes on to the next stage. -/
def finish (p : Option PassPosition) (s : State) : State :=
  match p with
  | none => s
  | some p => afterStage true p s

/-- What comes of what was fetched, `run` giving the instructions their meaning. -/
def runFetched (run : Instr → State → Host.Outcome State Fault Refusal) (f : Fetched) :
    Host.Outcome State Fault Refusal :=
  match f with
  | .settled t => .next t
  | .refuse r => .refused r
  | .run i p t =>
    match run i t with
    | .next u => .next (finish p u)
    | .fault r => .fault r
    | .refused r => .refused r

/-- A word placed where it is fetched next (log 15): a payload byte as the Frame a pass has just popped, on the page
the word belongs to, with the main loop to run next; a command byte and a frame as the next input. -/
def placeWord (s : State) (w : Encoded) : State :=
  match w with
  | .payload ext b =>
    (((s.withTr { s.tr with ext := ext }).withPass (some ⟨.translate, true, true, true, 0⟩)).withRet
      (.frame ⟨.atProto, b, oddParity b, true⟩)).withInputs (.mainLoop :: s.inputs)
  | .command b => s.withInputs (.commandByte b :: s.inputs)
  | .frame fmt wire => (s.withPass none).withInputs (.frame fmt wire (tableSchedule 11) :: s.inputs)

/-- A table word placed where it is fetched next; a word no reading accepts is placed as a payload byte, to be run as
an unknown code (R95). -/
def placeTableWord (nbits w : Nat) (s : State) : State :=
  match acceptedReading cfg (tableSchedule 11) (tableReadings nbits w) with
  | some (word, _) => placeWord s word
  | none => placeWord s (.payload s.tr.ext (BitVec.ofNat 8 w))

end Sys2Proof.Machine
end

