-- ==== Sys2Proof/Machine/Step.lean ====
section
/-! DEFINITION. One step of the machine: fetch, run, and go on with the pass if the instruction was one of its
operations (R13, R72). -/

namespace Sys2Proof.Machine

/-- One step: one operation of the core, or one input taken with nothing to run. -/
def step (s : State) : Host.Outcome State Fault Refusal := runFetched exec (fetch cfg s)

/-- The state in which the very next step fetches and runs the table word (log 15). -/
def State.withFetchWord (s : State) (nbits w : Nat) : State := placeTableWord nbits w s

end Sys2Proof.Machine
end

