-- ==== Sys2Proof/Machine/Build.lean ====
section
/-! DEFINITION. The step function of R13 with its `Cfg` argument (R8): a core of any build, as the machine of Step.lean
is the core built with `Machine.cfg`. Laws/Build.lean proves that at `Machine.cfg` the two are the same. -/

namespace Sys2Proof.Machine

/-- What an instruction does in a core built with `c`, its table apart (R8): every operation that reads a parameter, at
`c`; every other instruction reads none, and does what `exec` says. -/
def operationFor (c : Cfg) (i : Instr) (s : State) : Host.Outcome State Fault Refusal :=
  match i with
  | .linkOnEdge level data ts => .next (onEdge c level data ts s)
  | .linkTickSample atClk atData xtClk ts => serviced (tickSample c atClk atData xtClk ts s)
  | .rxStart data ts => .next (rxStart c data ts s)
  | .rxData k data ts => .next (rxData c k data ts s)
  | .rxParity data ts => .next (rxParity c data ts s)
  | .rxStop data ts => .next (rxStop c data ts s)
  | .rxTimeout ts => .next (rxTimeout c ts s)
  | .txRequest atClk ts => .next (txRequest c atClk ts s)
  | .txRelease ts => .next (txRelease c ts s)
  | .txBit k ts => .next (txBit c k ts s)
  | .txTimeout ts => .next (txTimeout c ts s)
  | .xtStep xtClk ts => .next (xtStep c xtClk ts s)
  | .xlData b xs => runXlData c b xs s
  | .xlUnknown b => runXlUnknown c b s
  | .brSetIndicators mask => .next (brSetIndicators c mask s)
  | .brReset => .next (brReset c s)
  | .brService atClk ts => serviced (brService c atClk ts s)
  | .qPush f => .next (queuePush c f s)
  | .dispatchPass atClk atData xtClk ts => serviced (dispatchPass c atClk atData xtClk ts s)
  | .atRxFrame v times => .next (captureFrame c v times s)
  | .atTxFrame v tReq tRel edges => .next (sendFrame c v tReq tRel edges s)
  | .xtFrame9 v passes => .next (transmitFrame c .nine v passes s)
  | .xtFrame10 v passes => .next (transmitFrame c .ten v passes s)
  | .cmdSetLeds => .next (queueSetLeds c s)
  | .cmdReset => .next (brReset c s)
  | i => exec i s

/-- What each instruction does in a core built with `c` (R8, R94): a row of the opcode table that is no entry of the
core's Translation Table has no effect. -/
def execFor (c : Cfg) (i : Instr) (s : State) : Host.Outcome State Fault Refusal :=
  match keyRow i with
  | some r => if rowInTable c r then exec i s else .next s
  | none => operationFor c i s

/-- One step of a core built with `c` (R8, R13). -/
def stepFor (c : Cfg) (s : State) : Host.Outcome State Fault Refusal := runFetched (execFor c) (fetch c s)

end Sys2Proof.Machine
end

