-- ==== Sys2Proof/Safety.lean ====
section
/-! DEFINITION. What counts as a sound state and as a safe run: the invariant of R49 with the bounds of R28 and what
keeps it inductive, the inputs the core is built for, and the absence of a stop (R18, R244). -/

namespace Sys2Proof.Machine

/-- The tag is one of the three receive tags: `Idle`, `Receiving(_)`, `ParityCheck` (R49 (v)). -/
def AtState.isReceiveTag (t : AtState) : Bool := t == .idle || t.isFrameReceive

/-- The invariant of the state: R49 (i) to (x), the bound R28 puts on the XT bit position, the constant of R27, the width
R34 gives the counters, and two clauses about the outbound path that R49 rests on (R150, R151, R202). That a Command's
`bytes` are never empty (R49 (ii)) and that AT bit indices stay in range (R28) the types already say. -/
structure State.Inv (s : State) : Prop where
  /-- (i) -/
  queueBound : s.q.length ≤ cfg.queueCap
  /-- (i) -/
  queueFrames : ∀ f ∈ s.q, f.proto = .atProto ∧ f.valid = true
  /-- (ii) -/
  pendingBound : s.xtPending.length ≤ cfg.xlatMaxOut
  /-- (ii) -/
  commandBound : s.cmdQ.length ≤ cfg.cmdQCap
  /-- (iii) -/
  deadlineNone : s.atBus.deadline = none ↔ (s.atBus.st = .idle ∨ s.atBus.st = .txHold)
  /-- (iv) -/
  clockHeld : s.pins.atClkLow = true ↔ s.atBus.st = .txHold
  /-- (v) -/
  dataReleased : s.atBus.st.isReceiveTag = true → s.pins.atDataLow = false
  /-- (vi) -/
  byteInFlight : s.atBus.st.isReceiveTag = false → byteInFlight s = some s.atBus.txByte
  /-- (vii) -/
  noStallIdle : s.xtBus.st = .idle → s.xtBus.inhibitSince = none
  /-- (viii) -/
  xtClockHigh : s.pins.xtClkOut = true
  /-- (ix) -/
  attemptsBound : s.cmdAttempts < cfg.cmdMaxAttempts
  /-- (x) -/
  idleClear : s.atBus.st = .idle →
    s.atBus.shift = 0 ∧ s.atBus.parAcc = false ∧ s.atBus.parBit = false ∧ s.atBus.txByte = 0
  /-- R28 -/
  xtPosition : ∀ p, s.xtBus.st = .sending p → p < xtFrameLen cfg.xtFrameBits
  /-- R27 -/
  xtParityUnused : s.xtBus.parAcc = false
  /-- A report waits only between frames, and the command it is about is still queued (R151, R202). -/
  reportHasCommand : s.txResult ≠ .none → s.atBus.st.isReceiveTag = true ∧ s.cmdQ ≠ []
  /-- The data line is released while the clock is held and once the stop bit is out (R82, R152, R154). -/
  dataReleasedOutbound : s.atBus.st = .txHold ∨ s.atBus.st = .txAwaitAck → s.pins.atDataLow = false
  /-- R34 -/
  countersFit : ∀ k, s.err.get k < 2 ^ cfg.ctrWidth

/-- An input the core is built for: an event of its sampling mode, a command byte that begins a command, a wire
string of the transmit and XT formats that is a frame of it; every inbound wire string (V6, R89, R97). -/
def Input.admissible (inp : Input) : Bool :=
  match inp with
  | .event e => admittedIn cfg.samplingMode e
  | .beginPass .. => cfg.samplingMode == .edge
  | .mainLoop => true
  | .commandByte b => match decodeCommand cfg b with
    | .ok _ => true
    | .error _ => false
  | .frame .atRx _ _ => true
  | .frame .atTx wire sch => match decodeFrame .atTx wire sch with
    | .ok _ => true
    | .error _ => false
  | .frame .xt wire sch => match decodeFrame .xt wire sch with
    | .ok _ => true
    | .error _ => false

/-- Everything the environment delivers is an input the core is built for. -/
def State.inputsAdmissible (s : State) : Prop := ∀ inp ∈ s.inputs, Input.admissible inp = true

/-- The machine has not stopped (R18). -/
def Live (o : Host.Outcome State Fault Refusal) : Prop := ∃ t, o = .next t

end Sys2Proof.Machine
end

