-- ==== Sys2Proof/Certificates/Slice0/Obligations.lean ====
section
/-! DEFINITION. The statements for the provers. A state is written out as an update of the state before, so that
every field not named is stated to be unchanged. The core has no byte memory (R47, log 17). -/

open Sys2Proof Sys2Proof.Machine

/-! ### Reset -/

/-- R50: every field of `S` after reset. -/
def Obligations.ResetHoldsSpecValues : Prop :=
  State.reset.atBus = ⟨.idle, 0, false, false, none, 0, 0⟩ ∧ State.reset.xtBus = ⟨.idle, 0, false, 0, none⟩ ∧
  State.reset.tr = ⟨false, false, 0⟩ ∧ State.reset.q = [] ∧ State.reset.xtPending = [] ∧ State.reset.cmdQ = [] ∧
  State.reset.cmdAttempts = 0 ∧ State.reset.txResult = .none ∧ State.reset.kbdUnresponsive = false ∧
  (∀ k, State.reset.err.get k = 0) ∧ State.reset.pins = ⟨false, false, true, true⟩ ∧
  State.reset.atClkPrev = true ∧ State.reset.asleep = false ∧ State.reset.trace = []

/-- R280: `SYS.RESET` writes every field of `S`; what the environment delivers next is no field of `S` (log 24). -/
def Obligations.SysResetWritesEveryField : Prop :=
  ∀ s : State, exec .sysReset s = .next { State.reset with inputs := s.inputs }

/-! ### Errors -/

/-- R242: `raise` adds one to the counter of its kind, saturating, and changes nothing else; in a core of any build,
whatever its `CTR_WIDTH` (R8). -/
def Obligations.RaiseCountsOneKindSaturating : Prop :=
  ∀ (c : Cfg) (k : ErrorKind) (s : State), ∃ e : Counters, raise c k s = { s with err := e } ∧
    e.get k = min (s.err.get k + 1) (2 ^ c.ctrWidth - 1) ∧ ∀ j, j ≠ k → e.get j = s.err.get j

/-- The only operation that lowers a counter is `SYS.RESET` (the sentence of R34 "Read-only to everything but `raise`
and `SYS.RESET`"), for every step of the model and every counter that is in the range R34 gives it (as each is in a sound
state, log 18). -/
def Obligations.CountersNeverDecreaseButByReset : Prop :=
  ∀ (s t : State), s.inputs.head? ≠ some (.event .reset) → step s = .next t →
    ∀ k, s.err.get k < 2 ^ cfg.ctrWidth → s.err.get k ≤ t.err.get k

/-! ### The bit-level link -/

/-- R110: what an AT edge does: a rising edge, the core's own edge in `TxHold`, an edge in time for each tag, a late
edge while receiving (examined again in `Idle`) and while sending (dropped). -/
def Obligations.OnEdgeSelectsTheOperation : Prop :=
  ∀ (data : Bit) (ts : Nat) (s : State),
    exec (.linkOnEdge true data ts) s = .next { s with asleep := false } ∧
    (s.atBus.st = .txHold → exec (.linkOnEdge false data ts) s = .next { s with asleep := false }) ∧
    ((∀ d, s.atBus.deadline = some d → ts ≤ d) →
      (s.atBus.st = .idle →
        exec (.linkOnEdge false data ts) s = exec (.rxStart data ts) { s with asleep := false }) ∧
      (∀ i : Fin 8, s.atBus.st = .receiving i.castSucc →
        exec (.linkOnEdge false data ts) s = exec (.rxData i data ts) { s with asleep := false }) ∧
      (s.atBus.st = .receiving 8 →
        exec (.linkOnEdge false data ts) s = exec (.rxParity data ts) { s with asleep := false }) ∧
      (s.atBus.st = .parityCheck →
        exec (.linkOnEdge false data ts) s = exec (.rxStop data ts) { s with asleep := false }) ∧
      (∀ i : Fin 10, s.atBus.st = .txSending i →
        exec (.linkOnEdge false data ts) s = exec (.txBit i ts) { s with asleep := false }) ∧
      (s.atBus.st = .txAwaitAck →
        exec (.linkOnEdge false data ts) s = exec (.txAck data ts) { s with asleep := false })) ∧
    (∀ d, s.atBus.deadline = some d → d < ts →
      (s.atBus.st.isFrameReceive = true → exec (.linkOnEdge false data ts) s = exec (.rxStart data ts)
        { s with asleep := false, atBus := ⟨.idle, 0, false, false, none, 0, s.atBus.holdUntil⟩,
                 err := { s.err with timeout := saturatingSucc cfg.ctrWidth s.err.timeout } }) ∧
      (s.atBus.st.isFrameSend = true →
        exec (.linkOnEdge false data ts) s = exec (.txTimeout ts) { s with asleep := false }))

/-- What the handler of an AT edge may touch (the table of R250): it always completes, and touches only `S.at`, the
newest end of `S.q`, the report, the AT pins, the receive and queue counters, `S.asleep` and the trace; in a sound
state it leaves `at_clk_low` too. A falling edge in time moves the bit position of R21 on by one, or ends the frame at
its last position: 10 inbound, 11 outbound. -/
def Obligations.OnEdgeCompletesAndFrame : Prop :=
  ∀ (level data : Bit) (ts : Nat) (s : State), ∃ t, exec (.linkOnEdge level data ts) s = .next t ∧
    t.asleep = false ∧ t.xtBus = s.xtBus ∧ t.tr = s.tr ∧ (t.q = s.q ∨ ∃ f, t.q = s.q ++ [f]) ∧
    t.xtPending = s.xtPending ∧ t.cmdQ = s.cmdQ ∧ t.cmdAttempts = s.cmdAttempts ∧
    t.kbdUnresponsive = s.kbdUnresponsive ∧ t.err.unknownScanCode = s.err.unknownScanCode ∧
    t.err.transmitInhibitedExceeded = s.err.transmitInhibitedExceeded ∧
    t.err.commandDeliveryFailed = s.err.commandDeliveryFailed ∧ t.pins.xtClkOut = s.pins.xtClkOut ∧
    t.pins.xtDataOut = s.pins.xtDataOut ∧ t.atClkPrev = s.atClkPrev ∧ t.inputs = s.inputs ∧ t.pass = s.pass ∧
    t.ret = s.ret ∧ (s.Inv → t.pins.atClkLow = s.pins.atClkLow) ∧
    (level = false → (∀ d, s.atBus.deadline = some d → ts ≤ d) →
      (s.atBus.st = .idle → t.atBus.st.bitpos = some (if data then 0 else 1)) ∧
      (∀ p, s.atBus.st ≠ .idle → s.atBus.st.bitpos = some p →
        (p < (if s.atBus.st.isFrameReceive then 10 else 11) → t.atBus.st.bitpos = some (p + 1)) ∧
        (p = (if s.atBus.st.isFrameReceive then 10 else 11) → t.atBus.st = .idle)))

/-- R111: `LINK.SEND_BIT` on each bus; the XT clock is high again when it ends. -/
def Obligations.SendBitDrivesTheBus : Prop :=
  ∀ (value : Bit) (s : State),
    exec (.linkSendBit .atBus value) s = .next { s with
      pins := { s.pins with atDataLow := !value }, trace := s.trace ++ [.atTxBit value] } ∧
    exec (.linkSendBit .xtBus value) s = .next { s with
      pins := { s.pins with xtDataOut := value, xtClkOut := true }, trace := s.trace ++ [.xtBit value] }

/-- R112: `LINK.IS_INHIBITED` on each bus changes nothing; the truth value it returns stands in `ret` (log 5). -/
def Obligations.IsInhibitedReadsTheLine : Prop :=
  ∀ (clkIn : Bit) (s : State), ∃ x a : Bool,
    exec (.linkIsInhibited .xtBus clkIn) s = .next { s with ret := .bit x } ∧ (x = true ↔ clkIn = false) ∧
    exec (.linkIsInhibited .atBus clkIn) s = .next { s with ret := .bit a } ∧
    (a = true ↔ clkIn = false ∧ s.pins.atClkLow = false)

/-- R114: `LINK.XT_EDGE` only ends the low-power wait. -/
def Obligations.XtEdgeOnlyWakes : Prop :=
  ∀ (level : Bit) (ts : Nat) (s : State), exec (.linkXtEdge level ts) s = .next { s with asleep := false }

/-- R113: in `Timer` mode a tick runs the edge handler exactly when the sampled AT clock went from 1 to 0, records the
level, and runs a pass; in `Edge` mode it has no effect. -/
def Obligations.TickSamplesThenPasses : Prop :=
  ∀ (atClk atData xtClk : Bit) (ts : Nat) (s : State),
    (∀ u, s.atClkPrev = true → atClk = false → exec (.linkOnEdge false atData ts) s = .next u →
      exec (.linkTickSample atClk atData xtClk ts) s =
        if cfg.samplingMode = .timer then
          exec (.dispatchPass atClk atData xtClk ts) { u with atClkPrev := false }
        else .next s) ∧
    (s.atClkPrev = false ∨ atClk = true →
      exec (.linkTickSample atClk atData xtClk ts) s =
        if cfg.samplingMode = .timer then
          exec (.dispatchPass atClk atData xtClk ts) { s with asleep := false, atClkPrev := atClk }
        else .next s)

/-- In every sound state a tick completes (the step is total there, R13; guard of R113), keeps the state sound, and
records the sampled level in `Timer` mode. -/
def Obligations.TickCompletes : Prop :=
  ∀ (atClk atData xtClk : Bit) (ts : Nat) (s : State), s.Inv →
    ∃ t, exec (.linkTickSample atClk atData xtClk ts) s = .next t ∧ t.Inv ∧ t.inputs = s.inputs ∧
      t.pass = s.pass ∧ t.ret = s.ret ∧
      (if cfg.samplingMode = .timer then t.atClkPrev = atClk else t = s)

/-! ### The receiver -/

/-- R131: `RX.START`. -/
def Obligations.RxStartTakesStartBit : Prop :=
  ∀ (ts : Nat) (s : State),
    (s.atBus.st = .idle →
      exec (.rxStart false ts) s = .next { s with atBus := { s.atBus with
        shift := 0, parAcc := false, parBit := false, deadline := some (ts + cfg.atBitTimeout), st := .receiving 0 } } ∧
      exec (.rxStart true ts) s = .next { s with err := { s.err with framing := saturatingSucc cfg.ctrWidth s.err.framing } }) ∧
    (s.atBus.st ≠ .idle → ∀ data, exec (.rxStart data ts) s = .next s)

/-- R132: `RX.DATA`, in its tag and in time, writes the one bit `i` of `shift` and no other, least significant first;
in another tag it has no effect. -/
def Obligations.RxDataWritesOneBit : Prop :=
  ∀ (i : Fin 8) (data : Bit) (ts : Nat) (s : State),
    (s.atBus.st = .receiving i.castSucc → (∀ d, s.atBus.deadline = some d → ts ≤ d) →
      ∃ v : Byte, exec (.rxData i data ts) s = .next { s with atBus := { s.atBus with
          shift := v, parAcc := s.atBus.parAcc ^^ data, deadline := some (ts + cfg.atBitTimeout),
          st := .receiving i.succ } } ∧
        ∀ j : Nat, j < 8 → v.getLsbD j = if j = i.val then data else s.atBus.shift.getLsbD j) ∧
    (s.atBus.st ≠ .receiving i.castSucc → exec (.rxData i data ts) s = .next s)

/-- R133: `RX.PARITY` stores the parity bit and checks nothing. -/
def Obligations.RxParityStoresBit : Prop :=
  ∀ (data : Bit) (ts : Nat) (s : State),
    (s.atBus.st = .receiving 8 → (∀ d, s.atBus.deadline = some d → ts ≤ d) →
      exec (.rxParity data ts) s = .next { s with atBus := { s.atBus with
        parBit := data, deadline := some (ts + cfg.atBitTimeout), st := .parityCheck } }) ∧
    (s.atBus.st ≠ .receiving 8 → exec (.rxParity data ts) s = .next s)

/-- R134, R246: `RX.STOP` examines the stop bit, then parity, then the room in the queue; exactly one thing is counted
or the Frame is pushed, and the link is reset in every case. -/
def Obligations.RxStopDecidesTheFrame : Prop :=
  ∀ (ts : Nat) (s : State), s.atBus.st = .parityCheck → (∀ d, s.atBus.deadline = some d → ts ≤ d) →
    exec (.rxStop false ts) s = .next { s with
      atBus := ⟨.idle, 0, false, false, none, 0, s.atBus.holdUntil⟩,
      err := { s.err with framing := saturatingSucc cfg.ctrWidth s.err.framing } } ∧
    (s.atBus.parAcc = s.atBus.parBit → exec (.rxStop true ts) s = .next { s with
      atBus := ⟨.idle, 0, false, false, none, 0, s.atBus.holdUntil⟩,
      err := { s.err with parity := saturatingSucc cfg.ctrWidth s.err.parity } }) ∧
    (s.atBus.parAcc ≠ s.atBus.parBit → s.q.length < 16 → exec (.rxStop true ts) s = .next { s with
      atBus := ⟨.idle, 0, false, false, none, 0, s.atBus.holdUntil⟩,
      q := s.q ++ [⟨.atProto, s.atBus.shift, s.atBus.parBit, true⟩] }) ∧
    (s.atBus.parAcc ≠ s.atBus.parBit → 16 ≤ s.q.length → exec (.rxStop true ts) s = .next { s with
      atBus := ⟨.idle, 0, false, false, none, 0, s.atBus.holdUntil⟩,
      err := { s.err with queueOverflow := saturatingSucc cfg.ctrWidth s.err.queueOverflow } })

/-- R135: `RX.TIMEOUT` abandons the frame exactly when the deadline has passed in a receive tag. -/
def Obligations.RxTimeoutAbandonsFrame : Prop :=
  ∀ (ts : Nat) (s : State),
    (∀ d, s.atBus.st.isFrameReceive = true → s.atBus.deadline = some d → d < ts →
      exec (.rxTimeout ts) s = .next { s with
        atBus := ⟨.idle, 0, false, false, none, 0, s.atBus.holdUntil⟩,
        err := { s.err with timeout := saturatingSucc cfg.ctrWidth s.err.timeout } }) ∧
    ((s.atBus.st.isFrameReceive = false ∨ ∀ d, s.atBus.deadline = some d → ts ≤ d) →
      exec (.rxTimeout ts) s = .next s)

/-- The spec's own inference R136 ("derived: from rules R131 to R134"), on the frame instruction of the model (log
10; in either sampling mode, log 28): from `Idle` with room in the queue, the eleven timely edges of the frame of any
byte `v` append the Frame of `v` and change nothing else but `asleep`. -/
def Obligations.FrameCaptureEndToEnd : Prop :=
  ∀ (v : Byte) (times : List Nat) (s : State), s.Inv → s.atBus.st = .idle → s.q.length < 16 → times.length = 11 →
    List.IsChain (fun a b => b ≤ a + cfg.atBitTimeout) times →
    exec (.atRxFrame v times) s = .next { s with
      asleep := false, q := s.q ++ [⟨.atProto, v, oddParity v, true⟩] }

/-- The spec's own inference R136, second sentence, on an inbound wire string as an input of the model (log 10, log
21; in either sampling mode, log 28): an inbound frame with stop bit 0, or with stop bit 1 and the wrong parity bit, queues nothing, counts exactly one
`FramingError` or `ParityError`, and leaves the receiver idle. -/
def Obligations.IllegalFrameIsCountedOnce : Prop :=
  ∀ (v : Byte) (p stop : Bit) (sch : Schedule) (rest : List Input) (s : State), s.Inv → s.atBus.st = .idle →
    s.pass = none → sch.edges.length = 11 →
    List.IsChain (fun a b => b ≤ a + cfg.atBitTimeout) (sch.edges.map Prod.snd) →
    s.inputs = .frame .atRx (false :: dataBits v ++ [p, stop]) sch :: rest →
    (stop = false → step s = .next { s with
      inputs := rest, asleep := false, err := { s.err with framing := saturatingSucc cfg.ctrWidth s.err.framing } }) ∧
    (stop = true → p ≠ oddParity v → step s = .next { s with
      inputs := rest, asleep := false, err := { s.err with parity := saturatingSucc cfg.ctrWidth s.err.parity } })

/-! ### The keyboard transmitter -/

/-- R151: `TX.REQUEST`. -/
def Obligations.TxRequestPullsClockLow : Prop :=
  ∀ (atClk : Bit) (ts : Nat) (s : State),
    (∀ k ks, s.cmdQ = k :: ks → s.atBus.st = .idle → s.txResult = .none →
      ¬ (atClk = false ∧ s.pins.atClkLow = false) →
      exec (.txRequest atClk ts) s = .next { s with
        atBus := { s.atBus with txByte := k.first, holdUntil := ts + cfg.atReqHold, st := .txHold },
        pins := { s.pins with atClkLow := true } }) ∧
    ((s.cmdQ = [] ∨ s.atBus.st ≠ .idle ∨ s.txResult ≠ .none ∨ (atClk = false ∧ s.pins.atClkLow = false)) →
      exec (.txRequest atClk ts) s = .next s)

/-- R152: `TX.RELEASE`. -/
def Obligations.TxReleasePutsOutStartBit : Prop :=
  ∀ (ts : Nat) (s : State),
    (s.atBus.st = .txHold → s.atBus.holdUntil ≤ ts → exec (.txRelease ts) s = .next { s with
      atBus := { s.atBus with parAcc := false, deadline := some (ts + cfg.atAckTimeout), st := .txSending 0 },
      pins := { s.pins with atClkLow := false, atDataLow := true } }) ∧
    (s.atBus.st ≠ .txHold ∨ ts < s.atBus.holdUntil → exec (.txRelease ts) s = .next s)

/-- R153: `TX.HOLD_EDGE` has no effect. -/
def Obligations.TxHoldEdgeDoesNothing : Prop :=
  ∀ s : State, exec .txHoldEdge s = .next s

/-- R154: `TX.BIT` at a data index, at the parity index and at the stop index. -/
def Obligations.TxBitPutsOutTheFrameBit : Prop :=
  ∀ (ts : Nat) (s : State), (∀ d, s.atBus.deadline = some d → ts ≤ d) →
    (∀ i : Fin 10, ∀ _ : i.val ≤ 7, s.atBus.st = .txSending i → exec (.txBit i ts) s = .next { s with
      atBus := { s.atBus with
        parAcc := s.atBus.parAcc ^^ s.atBus.txByte.getLsbD i.val,
        deadline := some (ts + cfg.atAckTimeout), st := .txSending ⟨i.val + 1, by omega⟩ },
      pins := { s.pins with atDataLow := !s.atBus.txByte.getLsbD i.val },
      trace := s.trace ++ [.atTxBit (s.atBus.txByte.getLsbD i.val)] }) ∧
    (s.atBus.st = .txSending 8 → exec (.txBit 8 ts) s = .next { s with
      atBus := { s.atBus with deadline := some (ts + cfg.atAckTimeout), st := .txSending 9 },
      pins := { s.pins with atDataLow := s.atBus.parAcc }, trace := s.trace ++ [.atTxBit (!s.atBus.parAcc)] }) ∧
    (s.atBus.st = .txSending 9 → exec (.txBit 9 ts) s = .next { s with
      atBus := { s.atBus with deadline := some (ts + cfg.atAckTimeout), st := .txAwaitAck },
      pins := { s.pins with atDataLow := false }, trace := s.trace ++ [.atTxBit true] })

/-- R155: `TX.ACK`, whatever the data level. -/
def Obligations.TxAckReportsDelivery : Prop :=
  ∀ (data : Bit) (ts : Nat) (s : State),
    (s.atBus.st = .txAwaitAck → (∀ d, s.atBus.deadline = some d → ts ≤ d) →
      exec (.txAck data ts) s = .next { s with
        atBus := ⟨.idle, 0, false, false, none, 0, s.atBus.holdUntil⟩, txResult := .delivered,
        trace := s.trace ++ [.atTxDelivered s.atBus.txByte] }) ∧
    (s.atBus.st ≠ .txAwaitAck → exec (.txAck data ts) s = .next s)

/-- R156: `TX.TIMEOUT`. -/
def Obligations.TxTimeoutAbortsTheSend : Prop :=
  ∀ (ts : Nat) (s : State),
    (∀ d, s.atBus.st.isFrameSend = true → s.atBus.deadline = some d → d < ts →
      exec (.txTimeout ts) s = .next { s with
        atBus := ⟨.idle, 0, false, false, none, 0, s.atBus.holdUntil⟩, txResult := .failed,
        pins := { s.pins with atClkLow := false, atDataLow := false },
        err := { s.err with timeout := saturatingSucc cfg.ctrWidth s.err.timeout },
        trace := s.trace ++ [.atTxFailed s.atBus.txByte] }) ∧
    ((s.atBus.st.isFrameSend = false ∨ ∀ d, s.atBus.deadline = some d → ts ≤ d) →
      exec (.txTimeout ts) s = .next s)

/-- The spec's own inference R157 ("derived: from rules R151 to R155"), on the frame instruction of the model (log
10; in either sampling mode, log 28): from `Idle` with byte `v` in flight, a request, a release after the hold time and eleven timely edges put out the
eight data bits, the parity bit and the stop bit, and report the delivery. -/
def Obligations.OutboundFrameEndToEnd : Prop :=
  ∀ (v : Byte) (tReq tRel : Nat) (edges : List (Bit × Nat)) (k : Command) (ks : List Command) (s : State),
    s.Inv → s.atBus.st = .idle → s.txResult = .none → s.cmdQ = k :: ks → k.first = v →
    tReq + cfg.atReqHold ≤ tRel → edges.length = 11 →
    List.IsChain (fun a b => b ≤ a + cfg.atAckTimeout) (tRel :: edges.map Prod.snd) →
    exec (.atTxFrame v tReq tRel edges) s = .next { s with
      atBus := ⟨.idle, 0, false, false, none, 0, tReq + cfg.atReqHold⟩, txResult := .delivered, asleep := false,
      trace := s.trace ++ ((dataBits v ++ [oddParity v, true]).map Output.atTxBit ++ [.atTxDelivered v]) }

/-! ### The host transmitter -/

/-- R171: `XT.LOAD`; `next_bit_at` is kept. -/
def Obligations.XtLoadBeginsTheByte : Prop :=
  ∀ (b : Byte) (s : State),
    (s.xtBus.st = .idle → exec (.xtLoad b) s = .next { s with
      xtBus := ⟨.sending 0, b, s.xtBus.parAcc, s.xtBus.nextBitAt, none⟩ }) ∧
    (s.xtBus.st ≠ .idle → exec (.xtLoad b) s = .next s)

/-- R172: `XT.STEP`: a stall begins, lasts, or drops the byte; on a free bus a pass comes too early, sends a bit, or
sends the last bit. -/
def Obligations.XtStepSendsOrStalls : Prop :=
  ∀ (p ts : Nat) (s : State),
    (∀ xtClk, s.xtBus.st = .idle → exec (.xtStep xtClk ts) s = .next s) ∧
    (s.xtBus.st = .sending p →
      (s.xtBus.inhibitSince = none →
        exec (.xtStep false ts) s = .next { s with xtBus := { s.xtBus with inhibitSince := some ts } }) ∧
      (∀ t0, s.xtBus.inhibitSince = some t0 → ts - t0 ≤ cfg.xtInhibitMaxWait →
        exec (.xtStep false ts) s = .next s) ∧
      (∀ t0, s.xtBus.inhibitSince = some t0 → cfg.xtInhibitMaxWait < ts - t0 →
        exec (.xtStep false ts) s = .next { s with
          xtBus := ⟨.idle, 0, s.xtBus.parAcc, s.xtBus.nextBitAt, none⟩,
          err := { s.err with transmitInhibitedExceeded := saturatingSucc cfg.ctrWidth s.err.transmitInhibitedExceeded },
          pins := { s.pins with xtDataOut := true }, trace := s.trace ++ [.xtDropped s.xtBus.shift] }) ∧
      (ts < s.xtBus.nextBitAt →
        exec (.xtStep true ts) s = .next { s with xtBus := { s.xtBus with inhibitSince := none } }) ∧
      (s.xtBus.nextBitAt ≤ ts → p + 1 ≠ xtFrameLen cfg.xtFrameBits →
        exec (.xtStep true ts) s = .next { s with
          xtBus := ⟨.sending (p + 1), s.xtBus.shift, s.xtBus.parAcc, ts + cfg.xtBitPeriod, none⟩,
          pins := { s.pins with xtClkOut := true, xtDataOut := xtFrameBit cfg.xtFrameBits s.xtBus.shift p },
          trace := s.trace ++ [.xtBit (xtFrameBit cfg.xtFrameBits s.xtBus.shift p)] }) ∧
      (s.xtBus.nextBitAt ≤ ts → p + 1 = xtFrameLen cfg.xtFrameBits →
        exec (.xtStep true ts) s = .next { s with
          xtBus := ⟨.idle, 0, s.xtBus.parAcc, ts + cfg.xtBitPeriod, none⟩,
          pins := { s.pins with xtClkOut := true, xtDataOut := true },
          trace := s.trace ++ [.xtBit (xtFrameBit cfg.xtFrameBits s.xtBus.shift p), .xtByte s.xtBus.shift] }))

/-- R83, R84: the bits `xt_frame_bit` gives, in order, are the wire strings of the two XT frames. -/
def Obligations.XtFrameBitsSpellTheWireString : Prop :=
  ∀ v : Byte, (List.range 9).map (xtFrameBit .nine v) = true :: (List.range 8).map v.getLsbD ∧
    (List.range 10).map (xtFrameBit .ten v) = false :: true :: (List.range 8).map v.getLsbD

/-- The spec's own inference R173 ("derived: from rules R171 and R172") for 9 bits, on the frame instruction of the
model (log 10, log 25; asleep or awake, log 29): from `XtIdle`, with free passes at least a bit period apart, the 9-bit frame of `v` goes out
bit by bit and ends idle, in a core built for 9 bits; in one built for 10 it has no effect. -/
def Obligations.XtFrame9EndToEnd : Prop :=
  ∀ (v : Byte) (times : List Nat) (first last : Nat) (s : State), s.xtBus.st = .idle → times.length = 9 →
    times.head? = some first → times.getLast? = some last → s.xtBus.nextBitAt ≤ first →
    List.IsChain (fun a b => a + cfg.xtBitPeriod ≤ b) times →
    exec (.xtFrame9 v (times.map fun ts => (true, ts))) s = .next
      (if cfg.xtFrameBits = .nine then { s with
        xtBus := ⟨.idle, 0, s.xtBus.parAcc, last + cfg.xtBitPeriod, none⟩,
        pins := { s.pins with xtClkOut := true, xtDataOut := true },
        trace := s.trace ++ ((true :: dataBits v).map Output.xtBit ++ [.xtByte v]) } else s)

/-- The spec's own inference R173 for 10 bits (log 10, log 25, log 29): the same for the 10-bit frame. -/
def Obligations.XtFrame10EndToEnd : Prop :=
  ∀ (v : Byte) (times : List Nat) (first last : Nat) (s : State), s.xtBus.st = .idle → times.length = 10 →
    times.head? = some first → times.getLast? = some last → s.xtBus.nextBitAt ≤ first →
    List.IsChain (fun a b => a + cfg.xtBitPeriod ≤ b) times →
    exec (.xtFrame10 v (times.map fun ts => (true, ts))) s = .next
      (if cfg.xtFrameBits = .ten then { s with
        xtBus := ⟨.idle, 0, s.xtBus.parAcc, last + cfg.xtBitPeriod, none⟩,
        pins := { s.pins with xtClkOut := true, xtDataOut := true },
        trace := s.trace ++ ((false :: true :: dataBits v).map Output.xtBit ++ [.xtByte v]) } else s)

/-- The spec's own inference R174 ("derived: from rule R172"), for each bit: any number of inhibited passes, none more
than the maximum wait after the first, leave no mark: the free pass that follows does exactly what it would have done
without them. -/
def Obligations.SuspensionIsIdempotent : Prop :=
  ∀ (p first : Nat) (stalls : List Nat) (ts : Nat) (s : State), s.xtBus.st = .sending p →
    s.xtBus.inhibitSince = none → (∀ t ∈ stalls, t - first ≤ cfg.xtInhibitMaxWait) →
    exec (.xtStep true ts) (xtPasses cfg ((first :: stalls).map fun t => (false, t)) s) = exec (.xtStep true ts) s

/-! ### The translator -/

/-- R191, R192: each prefix sets its mode bit, leaves the other, and returns nothing (in `ret`, log 5); the payload
bytes 0xE0 and 0xF0 do the same. -/
def Obligations.PrefixesSetTheirModeBit : Prop :=
  ∀ s : State,
    exec .xlPrefixE0 s = .next { s with tr := { s.tr with ext := true }, ret := .bytes [] } ∧
    exec .xlPrefixF0 s = .next { s with tr := { s.tr with brk := true }, ret := .bytes [] } ∧
    exec .prefixE0 s = .next { s with tr := { s.tr with ext := true }, ret := .bytes [] } ∧
    exec .prefixF0 s = .next { s with tr := { s.tr with brk := true }, ret := .bytes [] }

/-- R193: `XL.DATA` returns the table's output (in `ret`, log 5) and clears both mode bits; where the table does not
answer it, it has no effect. -/
def Obligations.XlDataReturnsTheEntry : Prop :=
  ∀ (b : Byte) (xs : List Byte) (s : State), b ≠ 0xE0#8 → b ≠ 0xF0#8 →
    (cfg.xlat s.tr.ext s.tr.brk b = some xs →
      exec (.xlData b xs) s = .next { s with tr := ⟨false, false, s.tr.ind⟩, ret := .bytes xs }) ∧
    (cfg.xlat s.tr.ext s.tr.brk b ≠ some xs → exec (.xlData b xs) s = .next s)

/-- R194: `XL.UNKNOWN` counts, returns nothing (in `ret`, log 5) and clears both mode bits; where the table has an
entry it has no effect (R12). -/
def Obligations.XlUnknownCountsAndClears : Prop :=
  ∀ (b : Byte) (s : State), b ≠ 0xE0#8 → b ≠ 0xF0#8 →
    (cfg.xlat s.tr.ext s.tr.brk b = none → exec (.xlUnknown b) s = .next { s with
      tr := ⟨false, false, s.tr.ind⟩, ret := .bytes [],
      err := { s.err with unknownScanCode := saturatingSucc cfg.ctrWidth s.err.unknownScanCode } }) ∧
    (∀ xs, cfg.xlat s.tr.ext s.tr.brk b = some xs → exec (.xlUnknown b) s = .next s)

/-- The Translation Table's entries as instructions of the model (tables of R92 and R93): each of the 108 entries
(every constructor `xlatPlain…` and `xlatExt…`, which `keyRow` gives its page and make byte) returns its make byte, or
that byte with bit 7 set when a break is pending, and clears both mode bits; on the other page it has no effect (log
12). -/
def Obligations.KeyEntriesReturnMakeOrBreak : Prop :=
  ∀ (i : Instr) (r : KeyRow) (s : State), keyRow i = some r →
    (s.tr.ext = r.ext → exec i s = .next { s with
      tr := ⟨false, false, s.tr.ind⟩, ret := .bytes [if s.tr.brk then r.make ||| 0x80#8 else r.make] }) ∧
    (s.tr.ext ≠ r.ext → exec i s = .next s)

/-- The table of the model and its entries as instructions agree: the table has exactly the entries that are
instructions: an entry's row is what the table answers for its page and code, and an answer of the table for a data
byte is the row of some entry. -/
def Obligations.TableHoldsExactlyTheEntries : Prop :=
  (∀ (i : Instr) (r : KeyRow), keyRow i = some r →
    cfg.xlat r.ext false r.code = some [r.make] ∧ cfg.xlat r.ext true r.code = some [r.make ||| 0x80#8]) ∧
  (∀ (ext brk : Bit) (b : Byte) (xs : List Byte), cfg.xlat ext brk b = some xs →
    ∃ i r, keyRow i = some r ∧ r.ext = ext ∧ r.code = b)

/-- R91 (a) to (d): what every admissible table satisfies, the default one does; and it has no entry for a prefix byte
(V3) and no entry that is empty or longer than `XLAT_MAX_OUT` (R90, R8). Of R91 (d), on both pages, as its decision D19
gives it: the break entry is the make entry with bit 7 set in every byte, and every byte of a make entry has bit 7 clear. -/
def Obligations.DefaultTableIsAdmissible : Prop :=
  cfg.xlat false false 0x1C#8 = some [0x1E#8] ∧ cfg.xlat false true 0x1C#8 = some [0x9E#8] ∧
  (∀ (c : Byte) (xs : List Byte), cfg.xlat false false c = some xs →
    ∃ m, xs = [m] ∧ cfg.xlat false true c = some [m ||| 0x80#8]) ∧
  (∃ x xs, cfg.xlat true false 0x75#8 = some (x :: xs)) ∧
  (∀ (e : Bit) (c : Byte), (cfg.xlat e true c).isSome = (cfg.xlat e false c).isSome) ∧
  (∀ (e : Bit) (c : Byte) (xs : List Byte), cfg.xlat e false c = some xs →
    cfg.xlat e true c = some (xs.map (· ||| 0x80#8)) ∧ ∀ m ∈ xs, m.getLsbD 7 = false) ∧
  (∀ e k : Bit, cfg.xlat e k 0xE0#8 = none ∧ cfg.xlat e k 0xF0#8 = none) ∧
  (∀ (e k : Bit) (c : Byte) (xs : List Byte), cfg.xlat e k c = some xs →
    1 ≤ xs.length ∧ xs.length ≤ cfg.xlatMaxOut)

/-- The decoder's side of R190: for every payload byte, the instruction the decoder selects on the page of the
Translation State does what `translate` says: it returns the same bytes and leaves the same state; in the machine, and
in a core of any build and with any Translation Table (R8, R94). -/
def Obligations.DecodedPayloadDoesWhatTranslateSays : Prop :=
  ∀ (b : Byte) (s : State),
    exec (selectTranslation cfg s.tr b) s = .next { (translate cfg b s).2 with ret := .bytes (translate cfg b s).1 } ∧
    ∀ c : Cfg, execFor c (selectTranslation c s.tr b) s =
      .next { (translate c b s).2 with ret := .bytes (translate c b s).1 }

/-- The spec's own inference R195 (c), with the sequences R88 decodes the same way (V2): from the default mode, any
list of prefixes, in any order and each repeated at will, that has an 0xE0 exactly when the entry is of the extended
page, then the entry, return its break byte if the list has an 0xF0 and its make byte if not; the mode is the default
again, and nothing else changes. -/
def Obligations.BreakSequencesReturnBit7 : Prop :=
  ∀ (i : Instr) (r : KeyRow) (prefixes : List Instr) (s : State), keyRow i = some r →
    s.tr.ext = false → s.tr.brk = false → (∀ j ∈ prefixes, j = .prefixE0 ∨ j = .prefixF0) →
    (.prefixE0 ∈ prefixes ↔ r.ext = true) →
    ∃ out : Byte, (prefixes ++ [i]).foldl (fun (o : Host.Outcome State Fault Refusal) j =>
        match o with
        | .next u => exec j u
        | .fault f => .fault f
        | .refused e => .refused e) (.next s) = .next { s with ret := .bytes [out] } ∧
      (.prefixF0 ∈ prefixes → out = r.make ||| 0x80#8) ∧ (.prefixF0 ∉ prefixes → out = r.make)

/-! ### The command bridge -/

/-- R200: `BR.SET_INDICATORS`. -/
def Obligations.SetIndicatorsQueuesSetLeds : Prop :=
  ∀ (mask : Byte) (s : State),
    (s.cmdQ.length < 4 → exec (.brSetIndicators mask) s = .next { s with
      asleep := false, tr := { s.tr with ind := mask &&& 0x07#8 },
      cmdQ := s.cmdQ ++ [⟨.setLeds, 0xED#8, [mask &&& 0x07#8]⟩] }) ∧
    (4 ≤ s.cmdQ.length → exec (.brSetIndicators mask) s = .next { s with
      asleep := false, tr := { s.tr with ind := mask &&& 0x07#8 },
      err := { s.err with commandDeliveryFailed := saturatingSucc cfg.ctrWidth s.err.commandDeliveryFailed } })

/-- R201: `BR.RESET`. -/
def Obligations.BrResetQueuesReset : Prop :=
  ∀ s : State,
    (s.cmdQ.length < 4 → exec .brReset s = .next { s with
      asleep := false, cmdQ := s.cmdQ ++ [⟨.reset, 0xFF#8, []⟩] }) ∧
    (4 ≤ s.cmdQ.length → exec .brReset s = .next { s with
      asleep := false,
      err := { s.err with commandDeliveryFailed := saturatingSucc cfg.ctrWidth s.err.commandDeliveryFailed } })

/-- The MODEL's choice for the two command bytes (log 11), built on R89: each queues its command, the "set LEDs" one
with Indicator State as it stands, or is counted at a full queue. -/
def Obligations.CommandBytesQueueTheirCommand : Prop :=
  ∀ s : State,
    (s.cmdQ.length < 4 →
      exec .cmdSetLeds s = .next { s with asleep := false, cmdQ := s.cmdQ ++ [⟨.setLeds, 0xED#8, [s.tr.ind]⟩] } ∧
      exec .cmdReset s = .next { s with asleep := false, cmdQ := s.cmdQ ++ [⟨.reset, 0xFF#8, []⟩] }) ∧
    (4 ≤ s.cmdQ.length → ∀ i ∈ [Instr.cmdSetLeds, .cmdReset], exec i s = .next { s with
      asleep := false,
      err := { s.err with commandDeliveryFailed := saturatingSucc cfg.ctrWidth s.err.commandDeliveryFailed } })

/-- R202: `BR.SERVICE` consumes the report (a byte delivered inside a command, a command completed, a reset
acknowledged, a retry, a command given up, no report), then releases or requests. -/
def Obligations.ServiceConsumesReportThenAdvances : Prop :=
  ∀ (atClk : Bit) (ts : Nat) (s : State) (i : Instr),
    i = (if s.atBus.st = .txHold then .txRelease ts else .txRequest atClk ts) →
    (s.txResult = .none → exec (.brService atClk ts) s = exec i s) ∧
    (∀ k ks b bs, s.txResult = .delivered → s.cmdQ = k :: ks → k.rest = b :: bs →
      exec (.brService atClk ts) s = exec i { s with
        txResult := .none, cmdAttempts := 0, kbdUnresponsive := false, cmdQ := ⟨k.kind, b, bs⟩ :: ks }) ∧
    (∀ k ks, s.txResult = .delivered → s.cmdQ = k :: ks → k.rest = [] → k.kind = .setLeds →
      exec (.brService atClk ts) s = exec i { s with
        txResult := .none, cmdAttempts := 0, kbdUnresponsive := false, cmdQ := ks }) ∧
    (∀ k ks, s.txResult = .delivered → s.cmdQ = k :: ks → k.rest = [] → k.kind = .reset →
      exec (.brService atClk ts) s = exec i { s with
        txResult := .none, cmdAttempts := 0, kbdUnresponsive := false, cmdQ := ks, tr := ⟨false, false, 0⟩ }) ∧
    (s.txResult = .failed → s.cmdAttempts + 1 < 3 →
      exec (.brService atClk ts) s = exec i { s with txResult := .none, cmdAttempts := s.cmdAttempts + 1 }) ∧
    (s.txResult = .failed → 3 ≤ s.cmdAttempts + 1 →
      exec (.brService atClk ts) s = exec i { s with
        txResult := .none, cmdAttempts := 0, kbdUnresponsive := true, cmdQ := s.cmdQ.tail,
        err := { s.err with commandDeliveryFailed := saturatingSucc cfg.ctrWidth s.err.commandDeliveryFailed },
        trace := s.trace ++ [.keyboardUnresponsive] })

/-- What `BR.SERVICE` touches (read from R202): in every sound state it completes, leaves no report waiting, and
touches neither the Frame Queue, nor the XT side, nor the inputs. -/
def Obligations.ServiceCompletesAndFrame : Prop :=
  ∀ (atClk : Bit) (ts : Nat) (s : State), s.Inv → ∃ t, exec (.brService atClk ts) s = .next t ∧ t.Inv ∧
    t.txResult = .none ∧ t.xtBus = s.xtBus ∧ t.q = s.q ∧ t.xtPending = s.xtPending ∧ t.atClkPrev = s.atClkPrev ∧
    t.asleep = s.asleep ∧ t.pins.xtClkOut = s.pins.xtClkOut ∧ t.pins.xtDataOut = s.pins.xtDataOut ∧
    (∀ k, k ≠ .commandDeliveryFailed → t.err.get k = s.err.get k) ∧ t.inputs = s.inputs ∧ t.pass = s.pass ∧
    t.ret = s.ret

/-- The MODEL's treatment of V9 (log 9): a delivery reported with no command queued stops `BR.SERVICE`. -/
def Obligations.ReportWithoutCommandStops : Prop :=
  ∀ (atClk : Bit) (ts : Nat) (s : State), s.txResult = .delivered → s.cmdQ = [] →
    exec (.brService atClk ts) s = .refused .reportWithoutCommand

/-! ### The Frame Queue -/

/-- R220: `Q.PUSH` appends the Frame, or at a full queue counts it and leaves the queue as it is. -/
def Obligations.PushAppendsOrDropsNewest : Prop :=
  ∀ (f : Frame) (s : State),
    (s.q.length < 16 → exec (.qPush f) s = .next { s with q := s.q ++ [f] }) ∧
    (16 ≤ s.q.length → exec (.qPush f) s = .next { s with
      err := { s.err with queueOverflow := saturatingSucc cfg.ctrWidth s.err.queueOverflow } })

/-- R221: `Q.POP` removes the oldest Frame and returns it (in `ret`, log 5). -/
def Obligations.PopRemovesOldest : Prop :=
  ∀ s : State,
    (∀ f rest, s.q = f :: rest → exec .qPop s = .next { s with q := rest, ret := .frame f }) ∧
    (s.q = [] → exec .qPop s = .next s)

/-! ### The Dispatch Loop -/

/-- A pass, written out as its operations (R226, first sentence of R227): while the loop sleeps it does nothing at
all; in every sound state with the loop awake it completes in a sound state, by way of the states the steps lead to:
`s0`, the poll of an expired deadline; `s1`, with the XT adapter idle, nothing pending and a Frame queued, `Q.POP` and
the operation its payload selects (R190), whose output becomes `xt_pending`; `s2`, with the adapter idle and a byte
pending, `XT.LOAD` of the oldest; `s3`, while a byte is being sent, `XT.STEP`; then `BR.SERVICE`; and the loop sleeps
exactly when nothing is queued or waiting and both adapters are idle. -/
def Obligations.PassCompletesAndSleepsWhenQuiescent : Prop :=
  ∀ (atClk atData xtClk : Bit) (ts : Nat) (s : State),
    (s.asleep = true → exec (.dispatchPass atClk atData xtClk ts) s = .next s) ∧
    (s.Inv → s.asleep = false → ∃ s0 s1 s2 s3 s4 t : State,
      (∀ d, s.atBus.deadline = some d → d < ts →
        exec (if s.atBus.st.isFrameReceive then .rxTimeout ts else .txTimeout ts) s = .next s0) ∧
      ((∀ d, s.atBus.deadline = some d → ts ≤ d) → s0 = s) ∧
      (∀ f rest, s0.xtBus.st = .idle → s0.xtPending = [] → s0.q = f :: rest → ∃ i v xs,
        exec .qPop s0 = .next { s0 with q := rest, ret := .frame f } ∧
        (f.payload = 0xE0#8 → i = .xlPrefixE0) ∧ (f.payload = 0xF0#8 → i = .xlPrefixF0) ∧
        (f.payload ≠ 0xE0#8 → f.payload ≠ 0xF0#8 →
          (∀ ys, cfg.xlat s0.tr.ext s0.tr.brk f.payload = some ys → i = .xlData f.payload ys) ∧
          (cfg.xlat s0.tr.ext s0.tr.brk f.payload = none → i = .xlUnknown f.payload)) ∧
        exec i { s0 with q := rest } = .next v ∧ v.ret = .bytes xs ∧
        s1 = { v with xtPending := xs, ret := s0.ret }) ∧
      (s0.xtBus.st ≠ .idle ∨ s0.xtPending ≠ [] ∨ s0.q = [] → s1 = s0) ∧
      (∀ b rest, s1.xtBus.st = .idle → s1.xtPending = b :: rest →
        ∃ v, exec (.xtLoad b) s1 = .next v ∧ s2 = { v with xtPending := rest }) ∧
      (s1.xtBus.st ≠ .idle ∨ s1.xtPending = [] → s2 = s1) ∧
      (s2.xtBus.st ≠ .idle → exec (.xtStep xtClk ts) s2 = .next s3) ∧ (s2.xtBus.st = .idle → s3 = s2) ∧
      exec (.brService atClk ts) s3 = .next s4 ∧
      exec (.dispatchPass atClk atData xtClk ts) s = .next t ∧ t = { s4 with asleep := t.asleep } ∧
      (t.asleep = true ↔ t.q = [] ∧ t.xtPending = [] ∧ t.cmdQ = [] ∧ t.xtBus.st = .idle ∧ t.atBus.st = .idle ∧
        t.txResult = .none) ∧
      t.Inv ∧ t.atClkPrev = s.atClkPrev ∧ t.inputs = s.inputs ∧ t.pass = s.pass ∧ t.ret = s.ret)

/-- The MODEL's interruptible pass (log 6) against R226: a pass run operation by operation, with no handler between,
does exactly what `DISPATCH.PASS` does. -/
def Obligations.PassRunsAsItsOperations : Prop :=
  ∀ (atClk atData xtClk : Bit) (ts : Nat) (s : State), s.asleep = false → s.pass = none → s.ret = .nothing →
    s.inputs = [] →
    Host.Core.run Sys2Proof.core 7 { s with pass := some ⟨.poll, atClk, atData, xtClk, ts⟩ } =
      exec (.dispatchPass atClk atData xtClk ts) s

/-! ### The step -/

/-- The MODEL's step (log 1) on the table of R13: with an event next and no pass under way it runs the operation of
the event's row; an event of the sampling mode the core was not built for, which V6 and R113 say does not occur, is
refused (the model's choice, log 8). The AT levels are those the core reads: 0 on a line it pulls low (R43, log 30). -/
def Obligations.StepRunsTheSelectedOperation : Prop :=
  ∀ (rest : List Input) (s : State), s.pass = none →
    (∀ level data ts, s.inputs = .event (.atEdge level data ts) :: rest →
      step s = if cfg.samplingMode = .edge then
          exec (.linkOnEdge (level && !s.pins.atClkLow) (data && !s.pins.atDataLow) ts) { s with inputs := rest }
        else .refused .wrongSamplingMode) ∧
    (∀ level ts, s.inputs = .event (.xtEdge level ts) :: rest →
      step s = if cfg.samplingMode = .edge then exec (.linkXtEdge level ts) { s with inputs := rest }
        else .refused .wrongSamplingMode) ∧
    (∀ atClk atData xtClk ts, s.inputs = .event (.tick atClk atData xtClk ts) :: rest →
      step s = if cfg.samplingMode = .timer then
          exec (.linkTickSample (atClk && !s.pins.atClkLow) (atData && !s.pins.atDataLow) xtClk ts)
            { s with inputs := rest }
        else .refused .wrongSamplingMode) ∧
    (∀ atClk atData xtClk ts, s.inputs = .event (.pass atClk atData xtClk ts) :: rest →
      step s = if cfg.samplingMode = .edge then
          exec (.dispatchPass (atClk && !s.pins.atClkLow) (atData && !s.pins.atDataLow) xtClk ts)
            { s with inputs := rest }
        else .refused .wrongSamplingMode) ∧
    (∀ mask, s.inputs = .event (.hostReq (.setIndicators mask)) :: rest →
      step s = exec (.brSetIndicators mask) { s with inputs := rest }) ∧
    (s.inputs = .event (.hostReq .reset) :: rest → step s = exec .brReset { s with inputs := rest }) ∧
    (s.inputs = .event .reset :: rest → step s = exec .sysReset { s with inputs := rest })

/-- The MODEL's reading of R72 (b) and R256 (a) (log 6, log 7): an interrupt or a host request that is next while a
pass is under way runs at once, between two of its operations, with the AT levels the core reads (log 30); the pass
keeps its place. -/
def Obligations.HandlersLandBetweenOperations : Prop :=
  ∀ (e : Event) (rest : List Input) (p : PassPosition) (s : State), s.inputs = .event e :: rest → s.pass = some p →
    beginsPass e = false → e ≠ .reset →
    (admittedIn cfg.samplingMode e = true → ∃ t, step s = .next t ∧ t.pass = some p ∧ t.ret = s.ret ∧
      exec (selectByEvent (readEvent s.pins e)) { s with inputs := rest } = .next t)

/-- The MODEL's step inside a pass (log 6): a step at the place of a pass where a Frame has been popped decodes the
Frame's payload on the page of the Translation State and runs that instruction; what it returns becomes `xt_pending`
(R190, R226). -/
def Obligations.StepRunsTheDecodedPayload : Prop :=
  ∀ (p : PassPosition) (f : Frame) (i : Instr) (rest : List Input) (u : State) (xs : List Byte) (s : State),
    s.pass = some p → p.stage = .translate → s.ret = .frame f → s.inputs = .mainLoop :: rest →
    decodePayload cfg s.tr.ext f.payload = .ok i → exec i { s with inputs := rest } = .next u → u.ret = .bytes xs →
    step s = .next { u with xtPending := xs, ret := .nothing, pass := some { p with stage := .load } }

/-- The MODEL's step on an encoded word (log 10, log 11): a step with a command byte next, or with no pass under way a
frame, decodes it and runs that instruction (R80, R89). -/
def Obligations.StepRunsTheDecodedWord : Prop :=
  ∀ (i : Instr) (rest : List Input) (s : State),
    (∀ b, s.inputs = .commandByte b :: rest → decodeCommand cfg b = .ok i →
      step s = exec i { s with inputs := rest }) ∧
    (∀ fmt wire sch, s.inputs = .frame fmt wire sch :: rest → s.pass = none → decodeFrame fmt wire sch = .ok i →
      step s = exec i { s with inputs := rest })

/-! ### Encodings -/

/-- The sentence of R85 (30_encoding.md section 2) on the nine bits: those of `v` and `P(v)` hold an odd number of ones. -/
def Obligations.ParityMakesOddOnes : Prop :=
  ∀ v : Byte, ((dataBits v ++ [oddParity v]).filter id).length % 2 = 1

/-- Words written out from the spec's tables (30_encoding.md sections 1, 3, 4, 5) decode to what they stand for. -/
def Obligations.SpecWordsDecode : Prop :=
  decode cfg (.payload false 0b11100000#8) ⟨0, 0, []⟩ = .ok .prefixE0 ∧
  decode cfg (.payload true 0b11110000#8) ⟨0, 0, []⟩ = .ok .prefixF0 ∧
  decode cfg (.payload false 0b00011100#8) ⟨0, 0, []⟩ = .ok .xlatPlainA ∧
  decode cfg (.payload true 0b01110101#8) ⟨0, 0, []⟩ = .ok .xlatExtUp ∧
  decode cfg (.command 0b11101101#8) ⟨0, 0, []⟩ = .ok .cmdSetLeds ∧
  decode cfg (.frame .atRx [false, false, false, true, true, true, false, false, false, false, true]) ⟨0, 0, []⟩ =
    .ok (.atRxFrame 0x1C#8 []) ∧
  decode cfg (.frame .atTx [false, true, false, true, true, false, true, true, true, true, true]) ⟨5, 9, []⟩ =
    .ok (.atTxFrame 0xED#8 5 9 []) ∧
  decode cfg (.frame .xt [true, false, true, true, true, true, false, false, false]) ⟨0, 0, []⟩ =
    .ok (.xtFrame9 0x1E#8 []) ∧
  decode cfg (.frame .xt [false, true, false, false, false, true, false, false, true, true]) ⟨0, 0, []⟩ =
    .ok (.xtFrame10 0xC8#8 [])

/-- Decode and encode agree, over every instruction that has an encoding: decoding the word of `i` with the times of
`i` gives `i`. -/
def Obligations.DecodeOfEncode : Prop :=
  ∀ (i : Instr) (w : Encoded), encode cfg i = some w → decode cfg w (scheduleOf i) = .ok i

/-- Encode and decode agree the other way: a word the decoder accepts is the word of what it decodes to, but for the
page of a prefix byte, which is a prefix on both (R86). -/
def Obligations.EncodeOfDecode : Prop :=
  ∀ (w : Encoded) (sch : Schedule) (i : Instr), decode cfg w sch = .ok i →
    encode cfg i = some w ∨
      ∃ ext b, w = .payload ext b ∧ isPrefixByte b = true ∧ encode cfg i = some (.payload false b)

/-! ### Invariants -/

/-- The spec's own inference R49 ("derived: from rules R110 to R230"), with the clauses the model adds (log 22): the
reset state is sound. -/
def Obligations.ResetIsSound : Prop := State.reset.Inv

/-- The spec's own inference R49, with the clauses the model adds (log 22): every step from a sound state that answers
a next state keeps it sound. -/
def Obligations.StepKeepsInvariant : Prop :=
  ∀ s t : State, s.Inv → step s = .next t → t.Inv

/-- The core has no fatal fault, trap or halt and never terminates (00_scope.md section 6, 60_exceptions.md section
1): from every sound state, on every list of inputs the core is built for, the core never stops: any number of steps
answers a next state, and a sound one. -/
def Obligations.CoreNeverStops : Prop :=
  ∀ (n : Nat) (s : State), s.Inv → s.inputsAdmissible →
    ∃ t : State, Host.Core.run Sys2Proof.core n s = .next t ∧ t.Inv
end

