-- ==== Sys2Proof/Laws/State.lean ====
section
/-! SUPPORT. One lemma per field per update of `State`, each true by `rfl`. -/

namespace Sys2Proof.Machine.State

variable (s : State)

@[simp] theorem withAt_atBus (x : AtLink) : (s.withAt x).atBus = x := rfl
@[simp] theorem withAt_xtBus (x : AtLink) : (s.withAt x).xtBus = s.xtBus := rfl
@[simp] theorem withAt_tr (x : AtLink) : (s.withAt x).tr = s.tr := rfl
@[simp] theorem withAt_q (x : AtLink) : (s.withAt x).q = s.q := rfl
@[simp] theorem withAt_xtPending (x : AtLink) : (s.withAt x).xtPending = s.xtPending := rfl
@[simp] theorem withAt_cmdQ (x : AtLink) : (s.withAt x).cmdQ = s.cmdQ := rfl
@[simp] theorem withAt_cmdAttempts (x : AtLink) : (s.withAt x).cmdAttempts = s.cmdAttempts := rfl
@[simp] theorem withAt_txResult (x : AtLink) : (s.withAt x).txResult = s.txResult := rfl
@[simp] theorem withAt_kbdUnresponsive (x : AtLink) : (s.withAt x).kbdUnresponsive = s.kbdUnresponsive := rfl
@[simp] theorem withAt_err (x : AtLink) : (s.withAt x).err = s.err := rfl
@[simp] theorem withAt_pins (x : AtLink) : (s.withAt x).pins = s.pins := rfl
@[simp] theorem withAt_atClkPrev (x : AtLink) : (s.withAt x).atClkPrev = s.atClkPrev := rfl
@[simp] theorem withAt_asleep (x : AtLink) : (s.withAt x).asleep = s.asleep := rfl
@[simp] theorem withAt_trace (x : AtLink) : (s.withAt x).trace = s.trace := rfl
@[simp] theorem withAt_inputs (x : AtLink) : (s.withAt x).inputs = s.inputs := rfl
@[simp] theorem withAt_pass (x : AtLink) : (s.withAt x).pass = s.pass := rfl
@[simp] theorem withAt_ret (x : AtLink) : (s.withAt x).ret = s.ret := rfl

@[simp] theorem withXt_atBus (x : XtLink) : (s.withXt x).atBus = s.atBus := rfl
@[simp] theorem withXt_xtBus (x : XtLink) : (s.withXt x).xtBus = x := rfl
@[simp] theorem withXt_tr (x : XtLink) : (s.withXt x).tr = s.tr := rfl
@[simp] theorem withXt_q (x : XtLink) : (s.withXt x).q = s.q := rfl
@[simp] theorem withXt_xtPending (x : XtLink) : (s.withXt x).xtPending = s.xtPending := rfl
@[simp] theorem withXt_cmdQ (x : XtLink) : (s.withXt x).cmdQ = s.cmdQ := rfl
@[simp] theorem withXt_cmdAttempts (x : XtLink) : (s.withXt x).cmdAttempts = s.cmdAttempts := rfl
@[simp] theorem withXt_txResult (x : XtLink) : (s.withXt x).txResult = s.txResult := rfl
@[simp] theorem withXt_kbdUnresponsive (x : XtLink) : (s.withXt x).kbdUnresponsive = s.kbdUnresponsive := rfl
@[simp] theorem withXt_err (x : XtLink) : (s.withXt x).err = s.err := rfl
@[simp] theorem withXt_pins (x : XtLink) : (s.withXt x).pins = s.pins := rfl
@[simp] theorem withXt_atClkPrev (x : XtLink) : (s.withXt x).atClkPrev = s.atClkPrev := rfl
@[simp] theorem withXt_asleep (x : XtLink) : (s.withXt x).asleep = s.asleep := rfl
@[simp] theorem withXt_trace (x : XtLink) : (s.withXt x).trace = s.trace := rfl
@[simp] theorem withXt_inputs (x : XtLink) : (s.withXt x).inputs = s.inputs := rfl
@[simp] theorem withXt_pass (x : XtLink) : (s.withXt x).pass = s.pass := rfl
@[simp] theorem withXt_ret (x : XtLink) : (s.withXt x).ret = s.ret := rfl

@[simp] theorem withTr_atBus (x : Translator) : (s.withTr x).atBus = s.atBus := rfl
@[simp] theorem withTr_xtBus (x : Translator) : (s.withTr x).xtBus = s.xtBus := rfl
@[simp] theorem withTr_tr (x : Translator) : (s.withTr x).tr = x := rfl
@[simp] theorem withTr_q (x : Translator) : (s.withTr x).q = s.q := rfl
@[simp] theorem withTr_xtPending (x : Translator) : (s.withTr x).xtPending = s.xtPending := rfl
@[simp] theorem withTr_cmdQ (x : Translator) : (s.withTr x).cmdQ = s.cmdQ := rfl
@[simp] theorem withTr_cmdAttempts (x : Translator) : (s.withTr x).cmdAttempts = s.cmdAttempts := rfl
@[simp] theorem withTr_txResult (x : Translator) : (s.withTr x).txResult = s.txResult := rfl
@[simp] theorem withTr_kbdUnresponsive (x : Translator) : (s.withTr x).kbdUnresponsive = s.kbdUnresponsive := rfl
@[simp] theorem withTr_err (x : Translator) : (s.withTr x).err = s.err := rfl
@[simp] theorem withTr_pins (x : Translator) : (s.withTr x).pins = s.pins := rfl
@[simp] theorem withTr_atClkPrev (x : Translator) : (s.withTr x).atClkPrev = s.atClkPrev := rfl
@[simp] theorem withTr_asleep (x : Translator) : (s.withTr x).asleep = s.asleep := rfl
@[simp] theorem withTr_trace (x : Translator) : (s.withTr x).trace = s.trace := rfl
@[simp] theorem withTr_inputs (x : Translator) : (s.withTr x).inputs = s.inputs := rfl
@[simp] theorem withTr_pass (x : Translator) : (s.withTr x).pass = s.pass := rfl
@[simp] theorem withTr_ret (x : Translator) : (s.withTr x).ret = s.ret := rfl

@[simp] theorem withQ_atBus (x : List Frame) : (s.withQ x).atBus = s.atBus := rfl
@[simp] theorem withQ_xtBus (x : List Frame) : (s.withQ x).xtBus = s.xtBus := rfl
@[simp] theorem withQ_tr (x : List Frame) : (s.withQ x).tr = s.tr := rfl
@[simp] theorem withQ_q (x : List Frame) : (s.withQ x).q = x := rfl
@[simp] theorem withQ_xtPending (x : List Frame) : (s.withQ x).xtPending = s.xtPending := rfl
@[simp] theorem withQ_cmdQ (x : List Frame) : (s.withQ x).cmdQ = s.cmdQ := rfl
@[simp] theorem withQ_cmdAttempts (x : List Frame) : (s.withQ x).cmdAttempts = s.cmdAttempts := rfl
@[simp] theorem withQ_txResult (x : List Frame) : (s.withQ x).txResult = s.txResult := rfl
@[simp] theorem withQ_kbdUnresponsive (x : List Frame) : (s.withQ x).kbdUnresponsive = s.kbdUnresponsive := rfl
@[simp] theorem withQ_err (x : List Frame) : (s.withQ x).err = s.err := rfl
@[simp] theorem withQ_pins (x : List Frame) : (s.withQ x).pins = s.pins := rfl
@[simp] theorem withQ_atClkPrev (x : List Frame) : (s.withQ x).atClkPrev = s.atClkPrev := rfl
@[simp] theorem withQ_asleep (x : List Frame) : (s.withQ x).asleep = s.asleep := rfl
@[simp] theorem withQ_trace (x : List Frame) : (s.withQ x).trace = s.trace := rfl
@[simp] theorem withQ_inputs (x : List Frame) : (s.withQ x).inputs = s.inputs := rfl
@[simp] theorem withQ_pass (x : List Frame) : (s.withQ x).pass = s.pass := rfl
@[simp] theorem withQ_ret (x : List Frame) : (s.withQ x).ret = s.ret := rfl

@[simp] theorem withXtPending_atBus (x : List Byte) : (s.withXtPending x).atBus = s.atBus := rfl
@[simp] theorem withXtPending_xtBus (x : List Byte) : (s.withXtPending x).xtBus = s.xtBus := rfl
@[simp] theorem withXtPending_tr (x : List Byte) : (s.withXtPending x).tr = s.tr := rfl
@[simp] theorem withXtPending_q (x : List Byte) : (s.withXtPending x).q = s.q := rfl
@[simp] theorem withXtPending_xtPending (x : List Byte) : (s.withXtPending x).xtPending = x := rfl
@[simp] theorem withXtPending_cmdQ (x : List Byte) : (s.withXtPending x).cmdQ = s.cmdQ := rfl
@[simp] theorem withXtPending_cmdAttempts (x : List Byte) : (s.withXtPending x).cmdAttempts = s.cmdAttempts := rfl
@[simp] theorem withXtPending_txResult (x : List Byte) : (s.withXtPending x).txResult = s.txResult := rfl
@[simp] theorem withXtPending_kbdUnresponsive (x : List Byte) : (s.withXtPending x).kbdUnresponsive = s.kbdUnresponsive := rfl
@[simp] theorem withXtPending_err (x : List Byte) : (s.withXtPending x).err = s.err := rfl
@[simp] theorem withXtPending_pins (x : List Byte) : (s.withXtPending x).pins = s.pins := rfl
@[simp] theorem withXtPending_atClkPrev (x : List Byte) : (s.withXtPending x).atClkPrev = s.atClkPrev := rfl
@[simp] theorem withXtPending_asleep (x : List Byte) : (s.withXtPending x).asleep = s.asleep := rfl
@[simp] theorem withXtPending_trace (x : List Byte) : (s.withXtPending x).trace = s.trace := rfl
@[simp] theorem withXtPending_inputs (x : List Byte) : (s.withXtPending x).inputs = s.inputs := rfl
@[simp] theorem withXtPending_pass (x : List Byte) : (s.withXtPending x).pass = s.pass := rfl
@[simp] theorem withXtPending_ret (x : List Byte) : (s.withXtPending x).ret = s.ret := rfl

@[simp] theorem withCmdQ_atBus (x : List Command) : (s.withCmdQ x).atBus = s.atBus := rfl
@[simp] theorem withCmdQ_xtBus (x : List Command) : (s.withCmdQ x).xtBus = s.xtBus := rfl
@[simp] theorem withCmdQ_tr (x : List Command) : (s.withCmdQ x).tr = s.tr := rfl
@[simp] theorem withCmdQ_q (x : List Command) : (s.withCmdQ x).q = s.q := rfl
@[simp] theorem withCmdQ_xtPending (x : List Command) : (s.withCmdQ x).xtPending = s.xtPending := rfl
@[simp] theorem withCmdQ_cmdQ (x : List Command) : (s.withCmdQ x).cmdQ = x := rfl
@[simp] theorem withCmdQ_cmdAttempts (x : List Command) : (s.withCmdQ x).cmdAttempts = s.cmdAttempts := rfl
@[simp] theorem withCmdQ_txResult (x : List Command) : (s.withCmdQ x).txResult = s.txResult := rfl
@[simp] theorem withCmdQ_kbdUnresponsive (x : List Command) : (s.withCmdQ x).kbdUnresponsive = s.kbdUnresponsive := rfl
@[simp] theorem withCmdQ_err (x : List Command) : (s.withCmdQ x).err = s.err := rfl
@[simp] theorem withCmdQ_pins (x : List Command) : (s.withCmdQ x).pins = s.pins := rfl
@[simp] theorem withCmdQ_atClkPrev (x : List Command) : (s.withCmdQ x).atClkPrev = s.atClkPrev := rfl
@[simp] theorem withCmdQ_asleep (x : List Command) : (s.withCmdQ x).asleep = s.asleep := rfl
@[simp] theorem withCmdQ_trace (x : List Command) : (s.withCmdQ x).trace = s.trace := rfl
@[simp] theorem withCmdQ_inputs (x : List Command) : (s.withCmdQ x).inputs = s.inputs := rfl
@[simp] theorem withCmdQ_pass (x : List Command) : (s.withCmdQ x).pass = s.pass := rfl
@[simp] theorem withCmdQ_ret (x : List Command) : (s.withCmdQ x).ret = s.ret := rfl

@[simp] theorem withCmdAttempts_atBus (x : Nat) : (s.withCmdAttempts x).atBus = s.atBus := rfl
@[simp] theorem withCmdAttempts_xtBus (x : Nat) : (s.withCmdAttempts x).xtBus = s.xtBus := rfl
@[simp] theorem withCmdAttempts_tr (x : Nat) : (s.withCmdAttempts x).tr = s.tr := rfl
@[simp] theorem withCmdAttempts_q (x : Nat) : (s.withCmdAttempts x).q = s.q := rfl
@[simp] theorem withCmdAttempts_xtPending (x : Nat) : (s.withCmdAttempts x).xtPending = s.xtPending := rfl
@[simp] theorem withCmdAttempts_cmdQ (x : Nat) : (s.withCmdAttempts x).cmdQ = s.cmdQ := rfl
@[simp] theorem withCmdAttempts_cmdAttempts (x : Nat) : (s.withCmdAttempts x).cmdAttempts = x := rfl
@[simp] theorem withCmdAttempts_txResult (x : Nat) : (s.withCmdAttempts x).txResult = s.txResult := rfl
@[simp] theorem withCmdAttempts_kbdUnresponsive (x : Nat) : (s.withCmdAttempts x).kbdUnresponsive = s.kbdUnresponsive := rfl
@[simp] theorem withCmdAttempts_err (x : Nat) : (s.withCmdAttempts x).err = s.err := rfl
@[simp] theorem withCmdAttempts_pins (x : Nat) : (s.withCmdAttempts x).pins = s.pins := rfl
@[simp] theorem withCmdAttempts_atClkPrev (x : Nat) : (s.withCmdAttempts x).atClkPrev = s.atClkPrev := rfl
@[simp] theorem withCmdAttempts_asleep (x : Nat) : (s.withCmdAttempts x).asleep = s.asleep := rfl
@[simp] theorem withCmdAttempts_trace (x : Nat) : (s.withCmdAttempts x).trace = s.trace := rfl
@[simp] theorem withCmdAttempts_inputs (x : Nat) : (s.withCmdAttempts x).inputs = s.inputs := rfl
@[simp] theorem withCmdAttempts_pass (x : Nat) : (s.withCmdAttempts x).pass = s.pass := rfl
@[simp] theorem withCmdAttempts_ret (x : Nat) : (s.withCmdAttempts x).ret = s.ret := rfl

@[simp] theorem withTxResult_atBus (x : TxResult) : (s.withTxResult x).atBus = s.atBus := rfl
@[simp] theorem withTxResult_xtBus (x : TxResult) : (s.withTxResult x).xtBus = s.xtBus := rfl
@[simp] theorem withTxResult_tr (x : TxResult) : (s.withTxResult x).tr = s.tr := rfl
@[simp] theorem withTxResult_q (x : TxResult) : (s.withTxResult x).q = s.q := rfl
@[simp] theorem withTxResult_xtPending (x : TxResult) : (s.withTxResult x).xtPending = s.xtPending := rfl
@[simp] theorem withTxResult_cmdQ (x : TxResult) : (s.withTxResult x).cmdQ = s.cmdQ := rfl
@[simp] theorem withTxResult_cmdAttempts (x : TxResult) : (s.withTxResult x).cmdAttempts = s.cmdAttempts := rfl
@[simp] theorem withTxResult_txResult (x : TxResult) : (s.withTxResult x).txResult = x := rfl
@[simp] theorem withTxResult_kbdUnresponsive (x : TxResult) : (s.withTxResult x).kbdUnresponsive = s.kbdUnresponsive := rfl
@[simp] theorem withTxResult_err (x : TxResult) : (s.withTxResult x).err = s.err := rfl
@[simp] theorem withTxResult_pins (x : TxResult) : (s.withTxResult x).pins = s.pins := rfl
@[simp] theorem withTxResult_atClkPrev (x : TxResult) : (s.withTxResult x).atClkPrev = s.atClkPrev := rfl
@[simp] theorem withTxResult_asleep (x : TxResult) : (s.withTxResult x).asleep = s.asleep := rfl
@[simp] theorem withTxResult_trace (x : TxResult) : (s.withTxResult x).trace = s.trace := rfl
@[simp] theorem withTxResult_inputs (x : TxResult) : (s.withTxResult x).inputs = s.inputs := rfl
@[simp] theorem withTxResult_pass (x : TxResult) : (s.withTxResult x).pass = s.pass := rfl
@[simp] theorem withTxResult_ret (x : TxResult) : (s.withTxResult x).ret = s.ret := rfl

@[simp] theorem withKbdUnresponsive_atBus (x : Bit) : (s.withKbdUnresponsive x).atBus = s.atBus := rfl
@[simp] theorem withKbdUnresponsive_xtBus (x : Bit) : (s.withKbdUnresponsive x).xtBus = s.xtBus := rfl
@[simp] theorem withKbdUnresponsive_tr (x : Bit) : (s.withKbdUnresponsive x).tr = s.tr := rfl
@[simp] theorem withKbdUnresponsive_q (x : Bit) : (s.withKbdUnresponsive x).q = s.q := rfl
@[simp] theorem withKbdUnresponsive_xtPending (x : Bit) : (s.withKbdUnresponsive x).xtPending = s.xtPending := rfl
@[simp] theorem withKbdUnresponsive_cmdQ (x : Bit) : (s.withKbdUnresponsive x).cmdQ = s.cmdQ := rfl
@[simp] theorem withKbdUnresponsive_cmdAttempts (x : Bit) : (s.withKbdUnresponsive x).cmdAttempts = s.cmdAttempts := rfl
@[simp] theorem withKbdUnresponsive_txResult (x : Bit) : (s.withKbdUnresponsive x).txResult = s.txResult := rfl
@[simp] theorem withKbdUnresponsive_kbdUnresponsive (x : Bit) : (s.withKbdUnresponsive x).kbdUnresponsive = x := rfl
@[simp] theorem withKbdUnresponsive_err (x : Bit) : (s.withKbdUnresponsive x).err = s.err := rfl
@[simp] theorem withKbdUnresponsive_pins (x : Bit) : (s.withKbdUnresponsive x).pins = s.pins := rfl
@[simp] theorem withKbdUnresponsive_atClkPrev (x : Bit) : (s.withKbdUnresponsive x).atClkPrev = s.atClkPrev := rfl
@[simp] theorem withKbdUnresponsive_asleep (x : Bit) : (s.withKbdUnresponsive x).asleep = s.asleep := rfl
@[simp] theorem withKbdUnresponsive_trace (x : Bit) : (s.withKbdUnresponsive x).trace = s.trace := rfl
@[simp] theorem withKbdUnresponsive_inputs (x : Bit) : (s.withKbdUnresponsive x).inputs = s.inputs := rfl
@[simp] theorem withKbdUnresponsive_pass (x : Bit) : (s.withKbdUnresponsive x).pass = s.pass := rfl
@[simp] theorem withKbdUnresponsive_ret (x : Bit) : (s.withKbdUnresponsive x).ret = s.ret := rfl

@[simp] theorem withErr_atBus (x : Counters) : (s.withErr x).atBus = s.atBus := rfl
@[simp] theorem withErr_xtBus (x : Counters) : (s.withErr x).xtBus = s.xtBus := rfl
@[simp] theorem withErr_tr (x : Counters) : (s.withErr x).tr = s.tr := rfl
@[simp] theorem withErr_q (x : Counters) : (s.withErr x).q = s.q := rfl
@[simp] theorem withErr_xtPending (x : Counters) : (s.withErr x).xtPending = s.xtPending := rfl
@[simp] theorem withErr_cmdQ (x : Counters) : (s.withErr x).cmdQ = s.cmdQ := rfl
@[simp] theorem withErr_cmdAttempts (x : Counters) : (s.withErr x).cmdAttempts = s.cmdAttempts := rfl
@[simp] theorem withErr_txResult (x : Counters) : (s.withErr x).txResult = s.txResult := rfl
@[simp] theorem withErr_kbdUnresponsive (x : Counters) : (s.withErr x).kbdUnresponsive = s.kbdUnresponsive := rfl
@[simp] theorem withErr_err (x : Counters) : (s.withErr x).err = x := rfl
@[simp] theorem withErr_pins (x : Counters) : (s.withErr x).pins = s.pins := rfl
@[simp] theorem withErr_atClkPrev (x : Counters) : (s.withErr x).atClkPrev = s.atClkPrev := rfl
@[simp] theorem withErr_asleep (x : Counters) : (s.withErr x).asleep = s.asleep := rfl
@[simp] theorem withErr_trace (x : Counters) : (s.withErr x).trace = s.trace := rfl
@[simp] theorem withErr_inputs (x : Counters) : (s.withErr x).inputs = s.inputs := rfl
@[simp] theorem withErr_pass (x : Counters) : (s.withErr x).pass = s.pass := rfl
@[simp] theorem withErr_ret (x : Counters) : (s.withErr x).ret = s.ret := rfl

@[simp] theorem withPins_atBus (x : Pins) : (s.withPins x).atBus = s.atBus := rfl
@[simp] theorem withPins_xtBus (x : Pins) : (s.withPins x).xtBus = s.xtBus := rfl
@[simp] theorem withPins_tr (x : Pins) : (s.withPins x).tr = s.tr := rfl
@[simp] theorem withPins_q (x : Pins) : (s.withPins x).q = s.q := rfl
@[simp] theorem withPins_xtPending (x : Pins) : (s.withPins x).xtPending = s.xtPending := rfl
@[simp] theorem withPins_cmdQ (x : Pins) : (s.withPins x).cmdQ = s.cmdQ := rfl
@[simp] theorem withPins_cmdAttempts (x : Pins) : (s.withPins x).cmdAttempts = s.cmdAttempts := rfl
@[simp] theorem withPins_txResult (x : Pins) : (s.withPins x).txResult = s.txResult := rfl
@[simp] theorem withPins_kbdUnresponsive (x : Pins) : (s.withPins x).kbdUnresponsive = s.kbdUnresponsive := rfl
@[simp] theorem withPins_err (x : Pins) : (s.withPins x).err = s.err := rfl
@[simp] theorem withPins_pins (x : Pins) : (s.withPins x).pins = x := rfl
@[simp] theorem withPins_atClkPrev (x : Pins) : (s.withPins x).atClkPrev = s.atClkPrev := rfl
@[simp] theorem withPins_asleep (x : Pins) : (s.withPins x).asleep = s.asleep := rfl
@[simp] theorem withPins_trace (x : Pins) : (s.withPins x).trace = s.trace := rfl
@[simp] theorem withPins_inputs (x : Pins) : (s.withPins x).inputs = s.inputs := rfl
@[simp] theorem withPins_pass (x : Pins) : (s.withPins x).pass = s.pass := rfl
@[simp] theorem withPins_ret (x : Pins) : (s.withPins x).ret = s.ret := rfl

@[simp] theorem withAtClkPrev_atBus (x : Bit) : (s.withAtClkPrev x).atBus = s.atBus := rfl
@[simp] theorem withAtClkPrev_xtBus (x : Bit) : (s.withAtClkPrev x).xtBus = s.xtBus := rfl
@[simp] theorem withAtClkPrev_tr (x : Bit) : (s.withAtClkPrev x).tr = s.tr := rfl
@[simp] theorem withAtClkPrev_q (x : Bit) : (s.withAtClkPrev x).q = s.q := rfl
@[simp] theorem withAtClkPrev_xtPending (x : Bit) : (s.withAtClkPrev x).xtPending = s.xtPending := rfl
@[simp] theorem withAtClkPrev_cmdQ (x : Bit) : (s.withAtClkPrev x).cmdQ = s.cmdQ := rfl
@[simp] theorem withAtClkPrev_cmdAttempts (x : Bit) : (s.withAtClkPrev x).cmdAttempts = s.cmdAttempts := rfl
@[simp] theorem withAtClkPrev_txResult (x : Bit) : (s.withAtClkPrev x).txResult = s.txResult := rfl
@[simp] theorem withAtClkPrev_kbdUnresponsive (x : Bit) : (s.withAtClkPrev x).kbdUnresponsive = s.kbdUnresponsive := rfl
@[simp] theorem withAtClkPrev_err (x : Bit) : (s.withAtClkPrev x).err = s.err := rfl
@[simp] theorem withAtClkPrev_pins (x : Bit) : (s.withAtClkPrev x).pins = s.pins := rfl
@[simp] theorem withAtClkPrev_atClkPrev (x : Bit) : (s.withAtClkPrev x).atClkPrev = x := rfl
@[simp] theorem withAtClkPrev_asleep (x : Bit) : (s.withAtClkPrev x).asleep = s.asleep := rfl
@[simp] theorem withAtClkPrev_trace (x : Bit) : (s.withAtClkPrev x).trace = s.trace := rfl
@[simp] theorem withAtClkPrev_inputs (x : Bit) : (s.withAtClkPrev x).inputs = s.inputs := rfl
@[simp] theorem withAtClkPrev_pass (x : Bit) : (s.withAtClkPrev x).pass = s.pass := rfl
@[simp] theorem withAtClkPrev_ret (x : Bit) : (s.withAtClkPrev x).ret = s.ret := rfl

@[simp] theorem withAsleep_atBus (x : Bit) : (s.withAsleep x).atBus = s.atBus := rfl
@[simp] theorem withAsleep_xtBus (x : Bit) : (s.withAsleep x).xtBus = s.xtBus := rfl
@[simp] theorem withAsleep_tr (x : Bit) : (s.withAsleep x).tr = s.tr := rfl
@[simp] theorem withAsleep_q (x : Bit) : (s.withAsleep x).q = s.q := rfl
@[simp] theorem withAsleep_xtPending (x : Bit) : (s.withAsleep x).xtPending = s.xtPending := rfl
@[simp] theorem withAsleep_cmdQ (x : Bit) : (s.withAsleep x).cmdQ = s.cmdQ := rfl
@[simp] theorem withAsleep_cmdAttempts (x : Bit) : (s.withAsleep x).cmdAttempts = s.cmdAttempts := rfl
@[simp] theorem withAsleep_txResult (x : Bit) : (s.withAsleep x).txResult = s.txResult := rfl
@[simp] theorem withAsleep_kbdUnresponsive (x : Bit) : (s.withAsleep x).kbdUnresponsive = s.kbdUnresponsive := rfl
@[simp] theorem withAsleep_err (x : Bit) : (s.withAsleep x).err = s.err := rfl
@[simp] theorem withAsleep_pins (x : Bit) : (s.withAsleep x).pins = s.pins := rfl
@[simp] theorem withAsleep_atClkPrev (x : Bit) : (s.withAsleep x).atClkPrev = s.atClkPrev := rfl
@[simp] theorem withAsleep_asleep (x : Bit) : (s.withAsleep x).asleep = x := rfl
@[simp] theorem withAsleep_trace (x : Bit) : (s.withAsleep x).trace = s.trace := rfl
@[simp] theorem withAsleep_inputs (x : Bit) : (s.withAsleep x).inputs = s.inputs := rfl
@[simp] theorem withAsleep_pass (x : Bit) : (s.withAsleep x).pass = s.pass := rfl
@[simp] theorem withAsleep_ret (x : Bit) : (s.withAsleep x).ret = s.ret := rfl

@[simp] theorem withTrace_atBus (x : List Output) : (s.withTrace x).atBus = s.atBus := rfl
@[simp] theorem withTrace_xtBus (x : List Output) : (s.withTrace x).xtBus = s.xtBus := rfl
@[simp] theorem withTrace_tr (x : List Output) : (s.withTrace x).tr = s.tr := rfl
@[simp] theorem withTrace_q (x : List Output) : (s.withTrace x).q = s.q := rfl
@[simp] theorem withTrace_xtPending (x : List Output) : (s.withTrace x).xtPending = s.xtPending := rfl
@[simp] theorem withTrace_cmdQ (x : List Output) : (s.withTrace x).cmdQ = s.cmdQ := rfl
@[simp] theorem withTrace_cmdAttempts (x : List Output) : (s.withTrace x).cmdAttempts = s.cmdAttempts := rfl
@[simp] theorem withTrace_txResult (x : List Output) : (s.withTrace x).txResult = s.txResult := rfl
@[simp] theorem withTrace_kbdUnresponsive (x : List Output) : (s.withTrace x).kbdUnresponsive = s.kbdUnresponsive := rfl
@[simp] theorem withTrace_err (x : List Output) : (s.withTrace x).err = s.err := rfl
@[simp] theorem withTrace_pins (x : List Output) : (s.withTrace x).pins = s.pins := rfl
@[simp] theorem withTrace_atClkPrev (x : List Output) : (s.withTrace x).atClkPrev = s.atClkPrev := rfl
@[simp] theorem withTrace_asleep (x : List Output) : (s.withTrace x).asleep = s.asleep := rfl
@[simp] theorem withTrace_trace (x : List Output) : (s.withTrace x).trace = x := rfl
@[simp] theorem withTrace_inputs (x : List Output) : (s.withTrace x).inputs = s.inputs := rfl
@[simp] theorem withTrace_pass (x : List Output) : (s.withTrace x).pass = s.pass := rfl
@[simp] theorem withTrace_ret (x : List Output) : (s.withTrace x).ret = s.ret := rfl

@[simp] theorem withInputs_atBus (x : List Input) : (s.withInputs x).atBus = s.atBus := rfl
@[simp] theorem withInputs_xtBus (x : List Input) : (s.withInputs x).xtBus = s.xtBus := rfl
@[simp] theorem withInputs_tr (x : List Input) : (s.withInputs x).tr = s.tr := rfl
@[simp] theorem withInputs_q (x : List Input) : (s.withInputs x).q = s.q := rfl
@[simp] theorem withInputs_xtPending (x : List Input) : (s.withInputs x).xtPending = s.xtPending := rfl
@[simp] theorem withInputs_cmdQ (x : List Input) : (s.withInputs x).cmdQ = s.cmdQ := rfl
@[simp] theorem withInputs_cmdAttempts (x : List Input) : (s.withInputs x).cmdAttempts = s.cmdAttempts := rfl
@[simp] theorem withInputs_txResult (x : List Input) : (s.withInputs x).txResult = s.txResult := rfl
@[simp] theorem withInputs_kbdUnresponsive (x : List Input) : (s.withInputs x).kbdUnresponsive = s.kbdUnresponsive := rfl
@[simp] theorem withInputs_err (x : List Input) : (s.withInputs x).err = s.err := rfl
@[simp] theorem withInputs_pins (x : List Input) : (s.withInputs x).pins = s.pins := rfl
@[simp] theorem withInputs_atClkPrev (x : List Input) : (s.withInputs x).atClkPrev = s.atClkPrev := rfl
@[simp] theorem withInputs_asleep (x : List Input) : (s.withInputs x).asleep = s.asleep := rfl
@[simp] theorem withInputs_trace (x : List Input) : (s.withInputs x).trace = s.trace := rfl
@[simp] theorem withInputs_inputs (x : List Input) : (s.withInputs x).inputs = x := rfl
@[simp] theorem withInputs_pass (x : List Input) : (s.withInputs x).pass = s.pass := rfl
@[simp] theorem withInputs_ret (x : List Input) : (s.withInputs x).ret = s.ret := rfl

@[simp] theorem withPass_atBus (x : Option PassPosition) : (s.withPass x).atBus = s.atBus := rfl
@[simp] theorem withPass_xtBus (x : Option PassPosition) : (s.withPass x).xtBus = s.xtBus := rfl
@[simp] theorem withPass_tr (x : Option PassPosition) : (s.withPass x).tr = s.tr := rfl
@[simp] theorem withPass_q (x : Option PassPosition) : (s.withPass x).q = s.q := rfl
@[simp] theorem withPass_xtPending (x : Option PassPosition) : (s.withPass x).xtPending = s.xtPending := rfl
@[simp] theorem withPass_cmdQ (x : Option PassPosition) : (s.withPass x).cmdQ = s.cmdQ := rfl
@[simp] theorem withPass_cmdAttempts (x : Option PassPosition) : (s.withPass x).cmdAttempts = s.cmdAttempts := rfl
@[simp] theorem withPass_txResult (x : Option PassPosition) : (s.withPass x).txResult = s.txResult := rfl
@[simp] theorem withPass_kbdUnresponsive (x : Option PassPosition) : (s.withPass x).kbdUnresponsive = s.kbdUnresponsive := rfl
@[simp] theorem withPass_err (x : Option PassPosition) : (s.withPass x).err = s.err := rfl
@[simp] theorem withPass_pins (x : Option PassPosition) : (s.withPass x).pins = s.pins := rfl
@[simp] theorem withPass_atClkPrev (x : Option PassPosition) : (s.withPass x).atClkPrev = s.atClkPrev := rfl
@[simp] theorem withPass_asleep (x : Option PassPosition) : (s.withPass x).asleep = s.asleep := rfl
@[simp] theorem withPass_trace (x : Option PassPosition) : (s.withPass x).trace = s.trace := rfl
@[simp] theorem withPass_inputs (x : Option PassPosition) : (s.withPass x).inputs = s.inputs := rfl
@[simp] theorem withPass_pass (x : Option PassPosition) : (s.withPass x).pass = x := rfl
@[simp] theorem withPass_ret (x : Option PassPosition) : (s.withPass x).ret = s.ret := rfl

@[simp] theorem withRet_atBus (x : Returned) : (s.withRet x).atBus = s.atBus := rfl
@[simp] theorem withRet_xtBus (x : Returned) : (s.withRet x).xtBus = s.xtBus := rfl
@[simp] theorem withRet_tr (x : Returned) : (s.withRet x).tr = s.tr := rfl
@[simp] theorem withRet_q (x : Returned) : (s.withRet x).q = s.q := rfl
@[simp] theorem withRet_xtPending (x : Returned) : (s.withRet x).xtPending = s.xtPending := rfl
@[simp] theorem withRet_cmdQ (x : Returned) : (s.withRet x).cmdQ = s.cmdQ := rfl
@[simp] theorem withRet_cmdAttempts (x : Returned) : (s.withRet x).cmdAttempts = s.cmdAttempts := rfl
@[simp] theorem withRet_txResult (x : Returned) : (s.withRet x).txResult = s.txResult := rfl
@[simp] theorem withRet_kbdUnresponsive (x : Returned) : (s.withRet x).kbdUnresponsive = s.kbdUnresponsive := rfl
@[simp] theorem withRet_err (x : Returned) : (s.withRet x).err = s.err := rfl
@[simp] theorem withRet_pins (x : Returned) : (s.withRet x).pins = s.pins := rfl
@[simp] theorem withRet_atClkPrev (x : Returned) : (s.withRet x).atClkPrev = s.atClkPrev := rfl
@[simp] theorem withRet_asleep (x : Returned) : (s.withRet x).asleep = s.asleep := rfl
@[simp] theorem withRet_trace (x : Returned) : (s.withRet x).trace = s.trace := rfl
@[simp] theorem withRet_inputs (x : Returned) : (s.withRet x).inputs = s.inputs := rfl
@[simp] theorem withRet_pass (x : Returned) : (s.withRet x).pass = s.pass := rfl
@[simp] theorem withRet_ret (x : Returned) : (s.withRet x).ret = x := rfl

end Sys2Proof.Machine.State
end

