-- ==== Sys2Proof/Laws/Ops.lean ====
section
/-! SUPPORT. For each shared operation, one lemma that says once everything it can do, and the small lemmas of the
flag and operand functions. -/

namespace Sys2Proof.Machine

/-! ### Flags and operands -/

theorem expired_none (ts : Nat) : expired none ts = false := rfl

theorem expired_some (d ts : Nat) : expired (some d) ts = decide (d < ts) := rfl

theorem atInTime_eq (ts : Nat) (s : State) : atInTime ts s = !expired s.atBus.deadline ts := rfl

/-- A saturated counter fits its width (R34, R242). -/
theorem saturatingSucc_lt (width x : Nat) : saturatingSucc width x < 2 ^ width := by
  have : 0 < 2 ^ width := Nat.two_pow_pos width
  unfold saturatingSucc
  omega

/-- A counter that fits its width never decreases (R34, R242). -/
theorem le_saturatingSucc {width x : Nat} (h : x < 2 ^ width) : x ≤ saturatingSucc width x := by
  unfold saturatingSucc
  omega

/-- `raise` moves the one counter and no other (R242). -/
theorem Counters.get_bump (width : Nat) (e : Counters) (k j : ErrorKind) :
    (e.bump width k).get j = if j = k then saturatingSucc width (e.get j) else e.get j := by
  cases k <;> cases j <;> rfl

/-- `raise` leaves every counter that fits its width in its width (R34, R242). -/
theorem Counters.get_bump_lt {width : Nat} {e : Counters} (h : ∀ j, e.get j < 2 ^ width) (k j : ErrorKind) :
    (e.bump width k).get j < 2 ^ width := by
  rw [Counters.get_bump]
  split
  · exact saturatingSucc_lt _ _
  · exact h j

/-- A line the core releases reads as it is driven, one it pulls low reads 0 (R43). -/
@[simp] theorem lineRead_released (level : Bit) : lineRead level false = level := by simp [lineRead]
@[simp] theorem lineRead_pulledLow (level : Bit) : lineRead level true = false := by simp [lineRead]

theorem xtWire9_eq (v : Byte) : xtWire9 v = (List.range 9).map (xtFrameBit .nine v) := by
  simp [xtWire9, dataBits, xtFrameBit, List.range, List.range.loop]

theorem xtWire10_eq (v : Byte) : xtWire10 v = (List.range 10).map (xtFrameBit .ten v) := by
  simp [xtWire10, dataBits, xtFrameBit, List.range, List.range.loop]

/-! ### The shared state operations, as updates of fields -/

theorem emit_eq (o : Output) (s : State) : emit o s = s.withTrace (s.trace ++ [o]) := rfl

theorem raise_eq (c : Cfg) (k : ErrorKind) (s : State) : raise c k s = s.withErr (s.err.bump c.ctrWidth k) := rfl

theorem linkResetAt_eq (s : State) : linkResetAt s = s.withAt ⟨.idle, 0, false, false, none, 0, s.atBus.holdUntil⟩ := rfl

theorem linkResetXt_eq (s : State) :
    linkResetXt s = s.withXt ⟨.idle, 0, s.xtBus.parAcc, s.xtBus.nextBitAt, none⟩ := rfl

theorem clearModeBits_eq (s : State) : clearModeBits s = s.withTr ⟨false, false, s.tr.ind⟩ := rfl

theorem sendBitAt_eq (v : Bit) (s : State) :
    sendBitAt v s = (s.withPins { s.pins with atDataLow := !v }).withTrace (s.trace ++ [.atTxBit v]) := rfl

theorem sendBitXt_eq (v : Bit) (s : State) :
    sendBitXt v s = (s.withPins { s.pins with xtClkOut := true, xtDataOut := v }).withTrace (s.trace ++ [.xtBit v]) := rfl

theorem xtRelease_eq (s : State) :
    xtRelease s = (s.withPins { s.pins with xtDataOut := true }).withXt
      ⟨.idle, 0, s.xtBus.parAcc, s.xtBus.nextBitAt, none⟩ := rfl

/-! ### The Frame Queue -/

/-- `Q.PUSH` appends the Frame, or, at a full queue, only counts (R220). -/
theorem queuePush_cases (c : Cfg) (f : Frame) (s : State) :
    (s.q.length < c.queueCap ∧ queuePush c f s = s.withQ (s.q ++ [f])) ∨
    (c.queueCap ≤ s.q.length ∧ queuePush c f s = raise c .queueOverflow s) := by
  unfold queuePush pushBack
  by_cases h : s.q.length < c.queueCap
  · exact .inl ⟨h, by simp [h]⟩
  · refine .inr ⟨by omega, ?_⟩
    cases hp : c.overflowPolicy
    simp [h]

/-- `Q.POP` removes the oldest Frame, or finds none (R221). -/
theorem queuePop_cases (s : State) :
    (s.q = [] ∧ queuePop s = (none, s)) ∨ (∃ f rest, s.q = f :: rest ∧ queuePop s = (some f, s.withQ rest)) := by
  unfold queuePop
  split
  next h => exact .inl ⟨h, rfl⟩
  next f rest h => exact .inr ⟨f, rest, h, rfl⟩

/-! ### The receiver -/

/-- Everything `RX.START` can do (R131). -/
theorem rxStart_cases (c : Cfg) (data : Bit) (ts : Nat) (s : State) :
    (s.atBus.st ≠ .idle ∧ rxStart c data ts s = s) ∨
    (s.atBus.st = .idle ∧ data = true ∧ rxStart c data ts s = raise c .framing s) ∨
    (s.atBus.st = .idle ∧ data = false ∧ rxStart c data ts s =
      s.withAt ⟨.receiving 0, 0, false, false, some (ts + c.atBitTimeout), s.atBus.txByte, s.atBus.holdUntil⟩) := by
  unfold rxStart
  by_cases h : s.atBus.st = .idle <;> cases data <;> simp [h]

/-- Everything `RX.DATA` can do (R132). -/
theorem rxData_cases (c : Cfg) (i : Fin 8) (data : Bit) (ts : Nat) (s : State) :
    (¬ (s.atBus.st = .receiving i.castSucc ∧ atInTime ts s = true) ∧ rxData c i data ts s = s) ∨
    (s.atBus.st = .receiving i.castSucc ∧ atInTime ts s = true ∧ rxData c i data ts s =
      s.withAt ⟨.receiving i.succ, setBit s.atBus.shift i.val data, s.atBus.parAcc ^^ data, s.atBus.parBit,
        some (ts + c.atBitTimeout), s.atBus.txByte, s.atBus.holdUntil⟩) := by
  unfold rxData
  by_cases h : s.atBus.st = .receiving i.castSucc ∧ atInTime ts s = true
  · exact .inr ⟨h.1, h.2, by rw [if_pos h]⟩
  · exact .inl ⟨h, by rw [if_neg h]⟩

/-- Everything `RX.PARITY` can do (R133). -/
theorem rxParity_cases (c : Cfg) (data : Bit) (ts : Nat) (s : State) :
    (¬ (s.atBus.st = .receiving 8 ∧ atInTime ts s = true) ∧ rxParity c data ts s = s) ∨
    (s.atBus.st = .receiving 8 ∧ atInTime ts s = true ∧ rxParity c data ts s =
      s.withAt ⟨.parityCheck, s.atBus.shift, s.atBus.parAcc, data, some (ts + c.atBitTimeout), s.atBus.txByte,
        s.atBus.holdUntil⟩) := by
  unfold rxParity
  by_cases h : s.atBus.st = .receiving 8 ∧ atInTime ts s = true
  · exact .inr ⟨h.1, h.2, by rw [if_pos h]⟩
  · exact .inl ⟨h, by rw [if_neg h]⟩

/-- Everything `RX.STOP` can do: the link is reset after a framing error, a parity error, or a push (R134). -/
theorem rxStop_cases (c : Cfg) (data : Bit) (ts : Nat) (s : State) :
    (¬ (s.atBus.st = .parityCheck ∧ atInTime ts s = true) ∧ rxStop c data ts s = s) ∨
    (s.atBus.st = .parityCheck ∧ atInTime ts s = true ∧
      ((data = false ∧ rxStop c data ts s = linkResetAt (raise c .framing s)) ∨
       (data = true ∧ parityPasses s.atBus.parAcc s.atBus.parBit = false ∧
          rxStop c data ts s = linkResetAt (raise c .parity s)) ∨
       (data = true ∧ parityPasses s.atBus.parAcc s.atBus.parBit = true ∧
          rxStop c data ts s = linkResetAt (queuePush c (receivedFrame s.atBus) s)))) := by
  unfold rxStop
  by_cases h : s.atBus.st = .parityCheck ∧ atInTime ts s = true
  · rw [if_pos h]
    refine .inr ⟨h.1, h.2, ?_⟩
    cases data <;> cases hp : parityPasses s.atBus.parAcc s.atBus.parBit <;> simp
  · exact .inl ⟨h, by rw [if_neg h]⟩

/-- Everything `RX.TIMEOUT` can do (R135). -/
theorem rxTimeout_cases (c : Cfg) (ts : Nat) (s : State) :
    (¬ (s.atBus.st.isFrameReceive = true ∧ expired s.atBus.deadline ts = true) ∧ rxTimeout c ts s = s) ∨
    (s.atBus.st.isFrameReceive = true ∧ expired s.atBus.deadline ts = true ∧
      rxTimeout c ts s = linkResetAt (raise c .timeout s)) := by
  unfold rxTimeout
  by_cases h : s.atBus.st.isFrameReceive = true ∧ expired s.atBus.deadline ts = true
  · exact .inr ⟨h.1, h.2, by rw [if_pos h]⟩
  · exact .inl ⟨h, by rw [if_neg h]⟩

/-! ### The keyboard transmitter -/

/-- Everything `TX.REQUEST` can do (R151). -/
theorem txRequest_cases (c : Cfg) (atClk : Bit) (ts : Nat) (s : State) :
    (txRequest c atClk ts s = s) ∨
    (∃ k ks, s.cmdQ = k :: ks ∧ s.atBus.st = .idle ∧ s.txResult = .none ∧ isInhibited .atBus atClk s = false ∧
      txRequest c atClk ts s = (s.withPins { s.pins with atClkLow := true }).withAt { s.atBus with
        txByte := k.first, holdUntil := ts + c.atReqHold, st := .txHold }) := by
  unfold txRequest
  split
  next => exact .inl rfl
  next k ks hq =>
    by_cases h : s.atBus.st = .idle ∧ s.txResult = .none ∧ (!isInhibited .atBus atClk s) = true
    · exact .inr ⟨k, ks, hq, h.1, h.2.1, by simpa using h.2.2, by rw [if_pos h]⟩
    · exact .inl (by rw [if_neg h])

/-- Everything `TX.RELEASE` can do (R152). -/
theorem txRelease_cases (c : Cfg) (ts : Nat) (s : State) :
    (¬ (s.atBus.st = .txHold ∧ s.atBus.holdUntil ≤ ts) ∧ txRelease c ts s = s) ∨
    (s.atBus.st = .txHold ∧ s.atBus.holdUntil ≤ ts ∧
      txRelease c ts s = (s.withPins { s.pins with atClkLow := false, atDataLow := true }).withAt { s.atBus with
        parAcc := false, deadline := some (ts + c.atAckTimeout), st := .txSending 0 }) := by
  unfold txRelease
  by_cases h : s.atBus.st = .txHold ∧ s.atBus.holdUntil ≤ ts
  · exact .inr ⟨h.1, h.2, by rw [if_pos h]⟩
  · exact .inl ⟨h, by rw [if_neg h]⟩

/-- Everything `TX.BIT` can do (R154). -/
theorem txBit_cases (c : Cfg) (i : Fin 10) (ts : Nat) (s : State) :
    (¬ (s.atBus.st = .txSending i ∧ atInTime ts s = true) ∧ txBit c i ts s = s) ∨
    (s.atBus.st = .txSending i ∧ atInTime ts s = true ∧
      txBit c i ts s = (sendBitAt (txBitValue s.atBus i) s).withAt { s.atBus with
        parAcc := if i.val ≤ 7 then s.atBus.parAcc ^^ txBitValue s.atBus i else s.atBus.parAcc,
        deadline := some (ts + c.atAckTimeout), st := txNextState i }) := by
  unfold txBit
  by_cases h : s.atBus.st = .txSending i ∧ atInTime ts s = true
  · exact .inr ⟨h.1, h.2, by rw [if_pos h]⟩
  · exact .inl ⟨h, by rw [if_neg h]⟩

/-- Everything `TX.ACK` can do (R155). -/
theorem txAck_cases (data : Bit) (ts : Nat) (s : State) :
    (¬ (s.atBus.st = .txAwaitAck ∧ atInTime ts s = true) ∧ txAck data ts s = s) ∨
    (s.atBus.st = .txAwaitAck ∧ atInTime ts s = true ∧
      txAck data ts s = emit (.atTxDelivered s.atBus.txByte) (linkResetAt (s.withTxResult .delivered))) := by
  unfold txAck
  by_cases h : s.atBus.st = .txAwaitAck ∧ atInTime ts s = true
  · exact .inr ⟨h.1, h.2, by rw [if_pos h]⟩
  · exact .inl ⟨h, by rw [if_neg h]⟩

/-- Everything `TX.TIMEOUT` can do (R156). -/
theorem txTimeout_cases (c : Cfg) (ts : Nat) (s : State) :
    (¬ (s.atBus.st.isFrameSend = true ∧ expired s.atBus.deadline ts = true) ∧ txTimeout c ts s = s) ∨
    (s.atBus.st.isFrameSend = true ∧ expired s.atBus.deadline ts = true ∧
      txTimeout c ts s = emit (.atTxFailed s.atBus.txByte)
        (linkResetAt (((raise c .timeout s).withTxResult .failed).withPins
          { s.pins with atClkLow := false, atDataLow := false }))) := by
  unfold txTimeout
  by_cases h : s.atBus.st.isFrameSend = true ∧ expired s.atBus.deadline ts = true
  · exact .inr ⟨h.1, h.2, by rw [if_pos h]⟩
  · exact .inl ⟨h, by rw [if_neg h]⟩

/-! ### The link -/

/-- Everything a falling edge in time can do: the one operation of the tag (R110). -/
theorem edgeByTag_cases (c : Cfg) (data : Bit) (ts : Nat) (s : State) :
    (edgeByTag c data ts s = rxStart c data ts s) ∨ (∃ i, edgeByTag c data ts s = rxData c i data ts s) ∨
    (edgeByTag c data ts s = rxParity c data ts s) ∨ (edgeByTag c data ts s = rxStop c data ts s) ∨
    (edgeByTag c data ts s = s) ∨ (∃ i, edgeByTag c data ts s = txBit c i ts s) ∨
    (edgeByTag c data ts s = txAck data ts s) := by
  unfold edgeByTag
  cases s.atBus.st with
  | idle => exact .inl rfl
  | receiving i =>
    by_cases h : i.val < 8
    · exact .inr (.inl ⟨⟨i.val, h⟩, by simp [h]⟩)
    · exact .inr (.inr (.inl (by simp [h])))
  | parityCheck => simp
  | txHold => simp [txHoldEdge]
  | txSending i => exact .inr (.inr (.inr (.inr (.inr (.inl ⟨i, rfl⟩)))))
  | txAwaitAck => simp

/-- Everything `LINK.ON_EDGE` can do, after it has ended the low-power wait (R110). -/
theorem onEdge_cases (c : Cfg) (level data : Bit) (ts : Nat) (s : State) :
    (onEdge c level data ts s = s.withAsleep false) ∨
    (onEdge c level data ts s = edgeByTag c data ts (s.withAsleep false)) ∨
    (onEdge c level data ts s = rxTimeout c ts (s.withAsleep false)) ∨
    (onEdge c level data ts s = edgeByTag c data ts (rxTimeout c ts (s.withAsleep false))) ∨
    (onEdge c level data ts s = txTimeout c ts (s.withAsleep false)) := by
  unfold onEdge lateEdge txHoldEdge
  dsimp only
  split
  · exact .inl rfl
  · split
    · exact .inl rfl
    · split
      · split
        · split
          · exact .inr (.inr (.inr (.inl rfl)))
          · exact .inr (.inr (.inl rfl))
        · exact .inr (.inr (.inr (.inr rfl)))
      · exact .inr (.inl rfl)

/-! ### The host transmitter -/

/-- Everything `XT.LOAD` can do (R171). -/
theorem xtLoad_cases (b : Byte) (s : State) :
    (s.xtBus.st ≠ .idle ∧ xtLoad b s = s) ∨
    (s.xtBus.st = .idle ∧
      xtLoad b s = s.withXt ⟨.sending 0, b, s.xtBus.parAcc, s.xtBus.nextBitAt, none⟩) := by
  unfold xtLoad
  by_cases h : s.xtBus.st = .idle <;> simp [h]

/-- Everything `XT.STEP` can do: nothing in `XtIdle`; under inhibition a stall that begins, lasts, or drops the byte;
on a free bus an early pass, a bit, or the last bit (R172). -/
theorem xtStep_cases (c : Cfg) (xtClk : Bit) (ts : Nat) (s : State) :
    (s.xtBus.st = .idle ∧ xtStep c xtClk ts s = s) ∨
    (∃ p, s.xtBus.st = .sending p ∧
      ((xtClk = false ∧ s.xtBus.inhibitSince = none ∧
          xtStep c xtClk ts s = s.withXt { s.xtBus with inhibitSince := some ts }) ∨
       (∃ t0, xtClk = false ∧ s.xtBus.inhibitSince = some t0 ∧ ts - t0 ≤ c.xtInhibitMaxWait ∧
          xtStep c xtClk ts s = s) ∨
       (∃ t0, xtClk = false ∧ s.xtBus.inhibitSince = some t0 ∧ c.xtInhibitMaxWait < ts - t0 ∧
          xtStep c xtClk ts s =
            emit (.xtDropped s.xtBus.shift) (xtRelease (raise c .transmitInhibitedExceeded s))) ∨
       (xtClk = true ∧ ts < s.xtBus.nextBitAt ∧
          xtStep c xtClk ts s = s.withXt { s.xtBus with inhibitSince := none }) ∨
       (xtClk = true ∧ s.xtBus.nextBitAt ≤ ts ∧ p + 1 ≠ xtFrameLen c.xtFrameBits ∧
          xtStep c xtClk ts s = (sendBitXt (xtFrameBit c.xtFrameBits s.xtBus.shift p) s).withXt
            ⟨.sending (p + 1), s.xtBus.shift, s.xtBus.parAcc, ts + c.xtBitPeriod, none⟩) ∨
       (xtClk = true ∧ s.xtBus.nextBitAt ≤ ts ∧ p + 1 = xtFrameLen c.xtFrameBits ∧
          xtStep c xtClk ts s = emit (.xtByte s.xtBus.shift) (xtRelease
            ((sendBitXt (xtFrameBit c.xtFrameBits s.xtBus.shift p) s).withXt
              ⟨.sending p, s.xtBus.shift, s.xtBus.parAcc, ts + c.xtBitPeriod, none⟩))))) := by
  unfold xtStep
  split
  next h => exact .inl ⟨h, rfl⟩
  next p h =>
    refine .inr ⟨p, h, ?_⟩
    cases xtClk
    · rw [show (if isInhibited .xtBus false s then xtStalled c ts s else xtAdvance c p ts s) = xtStalled c ts s from rfl]
      unfold xtStalled
      split
      next h0 => exact .inl ⟨rfl, h0, rfl⟩
      next t0 h0 =>
        by_cases hw : c.xtInhibitMaxWait < ts - t0
        · exact .inr (.inr (.inl ⟨t0, rfl, h0, hw, by rw [if_pos hw]⟩))
        · exact .inr (.inl ⟨t0, rfl, h0, by omega, by rw [if_neg hw]⟩)
    · rw [show (if isInhibited .xtBus true s then xtStalled c ts s else xtAdvance c p ts s) = xtAdvance c p ts s from rfl]
      unfold xtAdvance
      dsimp only
      by_cases hn : s.xtBus.nextBitAt ≤ ts
      · rw [if_pos hn]
        by_cases hp : p + 1 = xtFrameLen c.xtFrameBits
        · rw [if_pos hp]
          exact .inr (.inr (.inr (.inr (.inr ⟨rfl, hn, hp, rfl⟩))))
        · rw [if_neg hp]
          exact .inr (.inr (.inr (.inr (.inl ⟨rfl, hn, hp, rfl⟩))))
      · rw [if_neg hn]
        exact .inr (.inr (.inr (.inl ⟨rfl, by omega, rfl⟩)))

/-! ### The command bridge -/

/-- A command is queued, or, at a full queue, only counted (R200, R201). -/
theorem queueCommand_cases (c : Cfg) (k : Command) (s : State) :
    (s.cmdQ.length < c.cmdQCap ∧ queueCommand c k s = s.withCmdQ (s.cmdQ ++ [k])) ∨
    (c.cmdQCap ≤ s.cmdQ.length ∧ queueCommand c k s = raise c .commandDeliveryFailed s) := by
  unfold queueCommand pushBack
  by_cases h : s.cmdQ.length < c.cmdQCap
  · exact .inl ⟨h, by simp [h]⟩
  · exact .inr ⟨by omega, by simp [h]⟩

/-- Everything the consumption of a report can answer (R202). -/
theorem consumeReport_cases (c : Cfg) (s t : State) (h : consumeReport c s = some t) :
    (s.txResult = .none ∧ t = s) ∨
    (∃ k ks, s.txResult = .delivered ∧ s.cmdQ = k :: ks ∧ k.rest = [] ∧
      t = commandComplete k ks (((s.withTxResult .none).withCmdAttempts 0).withKbdUnresponsive false)) ∨
    (∃ k ks b bs, s.txResult = .delivered ∧ s.cmdQ = k :: ks ∧ k.rest = b :: bs ∧
      t = (((s.withTxResult .none).withCmdAttempts 0).withKbdUnresponsive false).withCmdQ
        ({ k with first := b, rest := bs } :: ks)) ∨
    (s.txResult = .failed ∧ c.cmdMaxAttempts ≤ s.cmdAttempts + 1 ∧
      t = emit .keyboardUnresponsive ((raise c .commandDeliveryFailed
        (((s.withTxResult .none).withCmdQ s.cmdQ.tail).withCmdAttempts 0)).withKbdUnresponsive true)) ∨
    (s.txResult = .failed ∧ s.cmdAttempts + 1 < c.cmdMaxAttempts ∧
      t = (s.withTxResult .none).withCmdAttempts (s.cmdAttempts + 1)) := by
  unfold consumeReport at h
  split at h
  next hr => exact .inl ⟨hr, by simpa using h.symm⟩
  next hr =>
    unfold reportDelivered at h
    split at h
    next => simp at h
    next k ks hq =>
      dsimp only at h
      split at h
      next hk => exact .inr (.inl ⟨k, ks, hr, hq, hk, by simpa using h.symm⟩)
      next b bs hk => exact .inr (.inr (.inl ⟨k, ks, b, bs, hr, hq, hk, by simpa using h.symm⟩))
  next hr =>
    unfold reportFailed at h
    dsimp only at h
    split at h
    next hm => exact .inr (.inr (.inr (.inl ⟨hr, hm, by simpa using h.symm⟩)))
    next hm => exact .inr (.inr (.inr (.inr ⟨hr, by omega, by simpa using h.symm⟩)))

/-- The report can be consumed unless a delivery is reported with no command queued (R202, V9). -/
theorem consumeReport_isSome (c : Cfg) (s : State) (h : s.txResult = .delivered → s.cmdQ ≠ []) :
    ∃ t, consumeReport c s = some t := by
  unfold consumeReport
  split
  next => exact ⟨_, rfl⟩
  next hr =>
    unfold reportDelivered
    split
    next hq => exact absurd hq (h hr)
    next k ks hq => dsimp only; split <;> exact ⟨_, rfl⟩
  next => exact ⟨_, rfl⟩

/-- The transmitter is advanced by a release or a request (R202). -/
theorem advanceTransmitter_cases (c : Cfg) (atClk : Bit) (ts : Nat) (s : State) :
    (s.atBus.st = .txHold ∧ advanceTransmitter c atClk ts s = txRelease c ts s) ∨
    (s.atBus.st ≠ .txHold ∧ advanceTransmitter c atClk ts s = txRequest c atClk ts s) := by
  unfold advanceTransmitter
  by_cases h : s.atBus.st = .txHold <;> simp [h]

/-! ### The translator -/

/-- Everything `translate` can do (R190). -/
theorem translate_cases (c : Cfg) (b : Byte) (s : State) :
    (b = 0xE0#8 ∧ translate c b s = ([], s.withTr { s.tr with ext := true })) ∨
    (b = 0xF0#8 ∧ translate c b s = ([], s.withTr { s.tr with brk := true })) ∨
    (isPrefixByte b = false ∧ ∃ xs, c.xlat s.tr.ext s.tr.brk b = some xs ∧
      translate c b s = (xs, clearModeBits s)) ∨
    (isPrefixByte b = false ∧ c.xlat s.tr.ext s.tr.brk b = none ∧
      translate c b s = ([], clearModeBits (raise c .unknownScanCode s))) := by
  unfold translate
  by_cases h0 : b = 0xE0#8
  · exact .inl ⟨h0, by simp [h0, xlPrefixE0]⟩
  · by_cases h1 : b = 0xF0#8
    · exact .inr (.inl ⟨h1, by simp [h1, xlPrefixF0]⟩)
    · have hp : isPrefixByte b = false := by simp [isPrefixByte, h0, h1]
      rw [if_neg h0, if_neg h1]
      cases hx : c.xlat s.tr.ext s.tr.brk b with
      | some xs => exact .inr (.inr (.inl ⟨hp, xs, rfl, rfl⟩))
      | none => exact .inr (.inr (.inr ⟨hp, rfl, rfl⟩))

/-- The default table gives one byte for an entry, so at most `XLAT_MAX_OUT` (R68, R92, R93). -/
theorem defaultXlat_length (ext brk : Bit) (b : Byte) (xs : List Byte) (h : defaultXlat ext brk b = some xs) :
    xs.length = 1 := by
  unfold defaultXlat at h
  split at h
  · simp at h
  · simp at h; simp [← h]

/-! ### A pass -/

/-- Everything the timeout poll can do (R226). -/
theorem pollDeadline_cases (c : Cfg) (ts : Nat) (s : State) :
    (pollDeadline c ts s = s) ∨ (pollDeadline c ts s = rxTimeout c ts s) ∨ (pollDeadline c ts s = txTimeout c ts s) := by
  unfold pollDeadline
  split
  · split <;> simp
  · simp

/-- Everything step 1 of a pass can do (R226). -/
theorem popAndTranslate_cases (c : Cfg) (s : State) :
    (popAndTranslate c s = s) ∨
    (∃ f rest, s.xtBus.st = .idle ∧ s.xtPending = [] ∧ s.q = f :: rest ∧
      popAndTranslate c s = (translate c f.payload (s.withQ rest)).2.withXtPending
        (translate c f.payload (s.withQ rest)).1) := by
  unfold popAndTranslate
  split
  next h =>
    rcases queuePop_cases s with ⟨_, h2⟩ | ⟨f, rest, hq, h2⟩
    · exact .inl (by rw [h2])
    · exact .inr ⟨f, rest, h.1, h.2, hq, by rw [h2]⟩
  next => exact .inl rfl

/-- Everything the first half of step 2 of a pass can do (R226). -/
theorem loadPending_cases (s : State) :
    (loadPending s = s) ∨
    (∃ b rest, s.xtPending = b :: rest ∧ s.xtBus.st = .idle ∧
      loadPending s = (xtLoad b s).withXtPending rest) := by
  unfold loadPending
  split
  next => exact .inl rfl
  next b rest h =>
    by_cases hi : s.xtBus.st = .idle
    · exact .inr ⟨b, rest, h, hi, by rw [if_pos hi]⟩
    · exact .inl (by rw [if_neg hi])

end Sys2Proof.Machine
end

