-- ==== Sys2Proof/Laws/Keys.lean ====
section
/-! SUPPORT. The Translation Table entries as instructions: their meaning by page and make byte, and the agreement of
the decoder's entries with the table. -/

namespace Sys2Proof.Machine

/-- The meaning of an entry is `keyEntry` of its row (R92, R93, R193). -/
theorem exec_key (i : Instr) (r : KeyRow) (s : State) (h : keyRow i = some r) : exec i s = keyEntry r.ext r.make s := by
  cases i <;> simp only [keyRow, Option.some.injEq, reduceCtorEq] at h <;> subst h <;> rfl

/-- A page's entry for a code, as the decoder and as the table give it, are the same. -/
def keysAgree (ext : Bit) (b : Byte) : Bool :=
  match lookupKey (if ext then extendedKeys else plainKeys) b with
  | none => lookupMake (if ext then extendedPage else plainPage) b == none
  | some i => keyRow i == (lookupMake (if ext then extendedPage else plainPage) b).map fun m => ⟨ext, b, m⟩

theorem keysAgree_all : ∀ (ext : Bit) (b : Byte), keysAgree ext b = true := by decide

/-- What a lookup finds in a list of table rows is a table row. -/
theorem lookupKey_isRow (l : List (Byte × Instr)) (hl : l.all (fun p => (keyRow p.2).isSome) = true) (b : Byte)
    (i : Instr) (h : lookupKey l b = some i) : (keyRow i).isSome = true := by
  induction l with
  | nil => simp [lookupKey] at h
  | cons p l ih =>
    simp only [List.all_cons, Bool.and_eq_true] at hl
    unfold lookupKey at h
    split at h
    · have := Option.some.inj h; subst this; exact hl.1
    · exact ih hl.2 h

/-- A decoded entry is the row of the table for its page and code (R92, R93). -/
theorem lookupKey_some {ext : Bit} {b : Byte} {i : Instr}
    (h : lookupKey (if ext then extendedKeys else plainKeys) b = some i) :
    ∃ m, keyRow i = some ⟨ext, b, m⟩ ∧ lookupMake (if ext then extendedPage else plainPage) b = some m := by
  have hrow : (keyRow i).isSome = true := lookupKey_isRow _ (by cases ext <;> decide) b i h
  have hk := keysAgree_all ext b
  unfold keysAgree at hk
  rw [h] at hk
  have hk := beq_iff_eq.mp hk
  cases hm : lookupMake (if ext then extendedPage else plainPage) b with
  | some m => exact ⟨m, by rw [hk, hm]; rfl, rfl⟩
  | none => rw [hk, hm] at hrow; simp at hrow

/-- A code the decoder finds no entry for has none in the table (R95). -/
theorem lookupKey_none {ext : Bit} {b : Byte} (h : lookupKey (if ext then extendedKeys else plainKeys) b = none) :
    lookupMake (if ext then extendedPage else plainPage) b = none := by
  have hk := keysAgree_all ext b
  unfold keysAgree at hk
  rw [h] at hk
  exact beq_iff_eq.mp hk

/-- The table on a page: the make byte, or the break byte (R92, R93). -/
theorem defaultXlat_some {ext brk : Bit} {b m : Byte}
    (h : lookupMake (if ext then extendedPage else plainPage) b = some m) :
    defaultXlat ext brk b = some [if brk then breakOf m else m] := by
  unfold defaultXlat; rw [h]

theorem defaultXlat_none {ext brk : Bit} {b : Byte}
    (h : lookupMake (if ext then extendedPage else plainPage) b = none) : defaultXlat ext brk b = none := by
  unfold defaultXlat; rw [h]

end Sys2Proof.Machine
end

