-- ==== Sys2Proof/Laws/Build.lean ====
section
/-! SUPPORT. The machine of Step.lean is the core of Machine/Build.lean built with `Machine.cfg` (R8). -/

namespace Sys2Proof.Machine

/-- Every row of the opcode table is an entry of the machine's own table (R92, R93). -/
theorem rowInTable_cfg {i : Instr} {r : KeyRow} (h : keyRow i = some r) : rowInTable cfg r = true := by
  cases i <;> simp only [keyRow, Option.some.injEq, reduceCtorEq] at h <;> subst h <;> decide

/-- The machine's instruction meanings are those of the core built with `Machine.cfg` (R8). -/
theorem execFor_cfg (i : Instr) (s : State) : execFor cfg i s = exec i s := by
  unfold execFor
  cases hk : keyRow i with
  | none => cases i <;> rfl
  | some r => simp [rowInTable_cfg hk]

/-- The machine's step is the step of the core built with `Machine.cfg` (R8, R13). -/
theorem stepFor_cfg (s : State) : stepFor cfg s = step s := by
  have h : execFor cfg = exec := funext fun i => funext fun t => execFor_cfg i t
  unfold stepFor step
  rw [h]

/-- A byte the decoder reads as a row of the opcode table, in the machine's own build: every looked-up row is an entry. -/
theorem isEntryOf_cfg {ext : Bit} {b : Byte} {i : Instr}
    (h : lookupKey (if ext then extendedKeys else plainKeys) b = some i) : isEntryOf cfg i = true := by
  obtain ⟨m, hk, _⟩ := lookupKey_some h
  unfold isEntryOf
  rw [hk]
  exact rowInTable_cfg hk

end Sys2Proof.Machine
end

