-- ==== Sys2Proof/Laws/Invariant.lean ====
section
/-! SUPPORT. Each shared operation keeps the invariant of Safety.lean. -/

namespace Sys2Proof.Machine

/-- The invariant speaks of nine fields only. -/
theorem State.Inv.congr {s t : State} (h : s.Inv) (hq : t.q = s.q) (hp : t.xtPending = s.xtPending)
    (hc : t.cmdQ = s.cmdQ) (ha : t.atBus = s.atBus) (hi : t.pins = s.pins) (hx : t.xtBus = s.xtBus)
    (hn : t.cmdAttempts = s.cmdAttempts) (hr : t.txResult = s.txResult) (he : t.err = s.err) : t.Inv := by
  obtain ⟨h1, h2, h3, h4, h5, h6, h7, h8, h9, h10, h11, h12, h13, h14, h15, h16, h17⟩ := h
  constructor <;> simp only [Sys2Proof.Machine.byteInFlight, hq, hp, hc, ha, hi, hx, hn, hr, he] at * <;> assumption

theorem inv_withAsleep {s : State} (h : s.Inv) (x : Bit) : (s.withAsleep x).Inv := h.congr rfl rfl rfl rfl rfl rfl rfl rfl rfl
theorem inv_withTr {s : State} (h : s.Inv) (x : Translator) : (s.withTr x).Inv := h.congr rfl rfl rfl rfl rfl rfl rfl rfl rfl
theorem inv_withErr {s : State} (h : s.Inv) (x : Counters) (hx : ∀ k, x.get k < 2 ^ cfg.ctrWidth) : (s.withErr x).Inv := by
  obtain ⟨h1, h2, h3, h4, h5, h6, h7, h8, h9, h10, h11, h12, h13, h14, h15, h16, h17⟩ := h
  constructor <;> assumption
theorem inv_withTrace {s : State} (h : s.Inv) (x : List Output) : (s.withTrace x).Inv := h.congr rfl rfl rfl rfl rfl rfl rfl rfl rfl
theorem inv_withInputs {s : State} (h : s.Inv) (x : List Input) : (s.withInputs x).Inv := h.congr rfl rfl rfl rfl rfl rfl rfl rfl rfl
theorem inv_withPass {s : State} (h : s.Inv) (x : Option PassPosition) : (s.withPass x).Inv :=
  h.congr rfl rfl rfl rfl rfl rfl rfl rfl rfl
theorem inv_withRet {s : State} (h : s.Inv) (x : Returned) : (s.withRet x).Inv := h.congr rfl rfl rfl rfl rfl rfl rfl rfl rfl
theorem inv_withAtClkPrev {s : State} (h : s.Inv) (x : Bit) : (s.withAtClkPrev x).Inv :=
  h.congr rfl rfl rfl rfl rfl rfl rfl rfl rfl
theorem inv_withKbdUnresponsive {s : State} (h : s.Inv) (x : Bit) : (s.withKbdUnresponsive x).Inv :=
  h.congr rfl rfl rfl rfl rfl rfl rfl rfl rfl
theorem inv_emit {s : State} (h : s.Inv) (o : Output) : (emit o s).Inv := inv_withTrace h _
theorem inv_raise {s : State} (h : s.Inv) (k : ErrorKind) : (raise cfg k s).Inv :=
  inv_withErr h _ (Counters.get_bump_lt h.countersFit k)
theorem inv_clearModeBits {s : State} (h : s.Inv) : (clearModeBits s).Inv := inv_withTr h _

/-- The AT link may be reset wherever the bus is not being driven and no report is lost. -/
theorem inv_linkResetAt {s : State} (h : s.Inv) (hr : s.atBus.st.isFrameReceive = true) : (linkResetAt s).Inv := by
  have hd := h.dataReleased (by simp [AtState.isReceiveTag, hr])
  have hc : s.pins.atClkLow = false := by
    cases hcl : s.pins.atClkLow
    · rfl
    · have := h.clockHeld.mp hcl; rw [this] at hr; simp [AtState.isFrameReceive] at hr
  have hrep := h.reportHasCommand
  obtain ⟨h1, h2, h3, h4, h5, h6, h7, h8, h9, h10, h11, h12, h13, h14, h15, h16, h17⟩ := h
  constructor <;> simp_all [linkResetAt_eq, AtState.isReceiveTag, AtState.isFrameReceive]

theorem inv_queuePush {s : State} (h : s.Inv) (f : Frame) (hf : f.proto = .atProto ∧ f.valid = true) :
    (queuePush cfg f s).Inv := by
  rcases queuePush_cases cfg f s with ⟨hl, e⟩ | ⟨_, e⟩ <;> rw [e]
  · obtain ⟨h1, h2, h3, h4, h5, h6, h7, h8, h9, h10, h11, h12, h13, h14, h15, h16, h17⟩ := h
    constructor <;> simp only [Sys2Proof.Machine.byteInFlight, State.withQ_q, State.withQ_xtPending, State.withQ_cmdQ,
      State.withQ_atBus, State.withQ_pins, State.withQ_xtBus, State.withQ_cmdAttempts, State.withQ_txResult] at * <;>
      first
        | assumption
        | (simp only [List.length_append, List.length_singleton]; omega)
        | skip
    intro g hg
    rcases List.mem_append.mp hg with hg | hg
    · exact h2 g hg
    · rw [List.mem_singleton.mp hg]; exact hf
  · exact inv_raise h _

theorem queuePush_atBus (c : Cfg) (f : Frame) (s : State) : (queuePush c f s).atBus = s.atBus := by
  rcases queuePush_cases c f s with ⟨_, e⟩ | ⟨_, e⟩ <;> rw [e] <;> rfl

/-- While a frame is received the AT link may be rewritten within the receive tags. -/
theorem inv_receiving {s : State} (h : s.Inv) (hs : s.atBus.st.isReceiveTag = true) (a : AtLink)
    (ha : a.st.isFrameReceive = true) (hd : a.deadline.isSome = true) : (s.withAt a).Inv := by
  have hh : s.atBus.st ≠ .txHold := by intro e; rw [e] at hs; simp [AtState.isReceiveTag, AtState.isFrameReceive] at hs
  have ht : a.st ≠ .txHold := by intro e; rw [e] at ha; simp [AtState.isFrameReceive] at ha
  have ha' : a.st ≠ .txAwaitAck := by intro e; rw [e] at ha; simp [AtState.isFrameReceive] at ha
  have hi : a.st ≠ .idle := by intro e; rw [e] at ha; simp [AtState.isFrameReceive] at ha
  have hr : a.st.isReceiveTag = true := by simp [AtState.isReceiveTag, ha]
  have hn : a.deadline ≠ none := by intro e; rw [e] at hd; simp at hd
  obtain ⟨h1, h2, h3, h4, h5, h6, h7, h8, h9, h10, h11, h12, h13, h14, h15, h16, h17⟩ := h
  constructor <;> simp_all

theorem inv_rxStart {s : State} (h : s.Inv) (data : Bit) (ts : Nat) : (rxStart cfg data ts s).Inv := by
  rcases rxStart_cases cfg data ts s with ⟨_, e⟩ | ⟨_, _, e⟩ | ⟨hi, _, e⟩ <;> rw [e]
  · exact h
  · exact inv_raise h _
  · exact inv_receiving h (by rw [hi]; rfl) _ rfl rfl

theorem inv_rxData {s : State} (h : s.Inv) (i : Fin 8) (data : Bit) (ts : Nat) : (rxData cfg i data ts s).Inv := by
  rcases rxData_cases cfg i data ts s with ⟨_, e⟩ | ⟨hi, _, e⟩ <;> rw [e]
  · exact h
  · exact inv_receiving h (by rw [hi]; rfl) _ rfl rfl

theorem inv_rxParity {s : State} (h : s.Inv) (data : Bit) (ts : Nat) : (rxParity cfg data ts s).Inv := by
  rcases rxParity_cases cfg data ts s with ⟨_, e⟩ | ⟨hi, _, e⟩ <;> rw [e]
  · exact h
  · exact inv_receiving h (by rw [hi]; rfl) _ rfl rfl

theorem inv_rxStop {s : State} (h : s.Inv) (data : Bit) (ts : Nat) : (rxStop cfg data ts s).Inv := by
  rcases rxStop_cases cfg data ts s with ⟨_, e⟩ | ⟨hi, _, ⟨_, e⟩ | ⟨_, _, e⟩ | ⟨_, _, e⟩⟩ <;> rw [e]
  · exact h
  · exact inv_linkResetAt (inv_raise h _) (by rw [raise_eq, State.withErr_atBus, hi]; rfl)
  · exact inv_linkResetAt (inv_raise h _) (by rw [raise_eq, State.withErr_atBus, hi]; rfl)
  · exact inv_linkResetAt (inv_queuePush h _ ⟨rfl, rfl⟩) (by rw [queuePush_atBus, hi]; rfl)

theorem inv_rxTimeout {s : State} (h : s.Inv) (ts : Nat) : (rxTimeout cfg ts s).Inv := by
  rcases rxTimeout_cases cfg ts s with ⟨_, e⟩ | ⟨hi, _, e⟩ <;> rw [e]
  · exact h
  · exact inv_linkResetAt (inv_raise h _) hi

theorem inv_txRequest {s : State} (h : s.Inv) (atClk : Bit) (ts : Nat) : (txRequest cfg atClk ts s).Inv := by
  rcases txRequest_cases cfg atClk ts s with e | ⟨k, ks, hq, hi, hr, _, e⟩ <;> rw [e]
  · exact h
  · have hd := h.dataReleased (by rw [hi]; rfl)
    have hn := h.deadlineNone.mpr (.inl hi)
    obtain ⟨h1, h2, h3, h4, h5, h6, h7, h8, h9, h10, h11, h12, h13, h14, h15, h16, h17⟩ := h
    constructor <;> simp_all [AtState.isReceiveTag, AtState.isFrameReceive, Sys2Proof.Machine.byteInFlight]

theorem inv_txRelease {s : State} (h : s.Inv) (ts : Nat) : (txRelease cfg ts s).Inv := by
  rcases txRelease_cases cfg ts s with ⟨_, e⟩ | ⟨hi, _, e⟩ <;> rw [e]
  · exact h
  · have hb := h.byteInFlight (by rw [hi]; rfl)
    have hr : s.txResult = .none := by
      cases hrr : s.txResult
      · rfl
      all_goals
        have := (h.reportHasCommand (by rw [hrr]; simp)).1
        rw [hi] at this; simp [AtState.isReceiveTag, AtState.isFrameReceive] at this
    obtain ⟨h1, h2, h3, h4, h5, h6, h7, h8, h9, h10, h11, h12, h13, h14, h15, h16, h17⟩ := h
    constructor <;> simp_all [AtState.isReceiveTag, AtState.isFrameReceive, Sys2Proof.Machine.byteInFlight]

theorem txNextState_not_receive (i : Fin 10) : (txNextState i).isReceiveTag = false := by
  unfold txNextState; split <;> rfl

theorem txNextState_ne (i : Fin 10) : txNextState i ≠ .idle ∧ txNextState i ≠ .txHold := by
  unfold txNextState; split <;> simp

theorem txNextState_ack {i : Fin 10} (h : txNextState i = .txAwaitAck) : i.val = 9 := by
  unfold txNextState at h; split at h
  · simp at h
  · omega

theorem inv_txBit {s : State} (h : s.Inv) (i : Fin 10) (ts : Nat) : (txBit cfg i ts s).Inv := by
  rcases txBit_cases cfg i ts s with ⟨_, e⟩ | ⟨hi, _, e⟩ <;> rw [e]
  · exact h
  · have hb := h.byteInFlight (by rw [hi]; rfl)
    have hr : s.txResult = .none := by
      cases hrr : s.txResult
      · rfl
      all_goals
        have := (h.reportHasCommand (by rw [hrr]; simp)).1
        rw [hi] at this; simp [AtState.isReceiveTag, AtState.isFrameReceive] at this
    have hn1 := txNextState_not_receive i
    have hn2 := (txNextState_ne i).1
    have hn3 := (txNextState_ne i).2
    have hack : txNextState i = .txAwaitAck → txBitValue s.atBus i = true := by
      intro hh; have := txNextState_ack hh; simp [txBitValue, this]
    obtain ⟨h1, h2, h3, h4, h5, h6, h7, h8, h9, h10, h11, h12, h13, h14, h15, h16, h17⟩ := h
    constructor <;> simp_all [sendBitAt_eq, Sys2Proof.Machine.byteInFlight]

theorem inv_txAck {s : State} (h : s.Inv) (data : Bit) (ts : Nat) : (txAck data ts s).Inv := by
  rcases txAck_cases data ts s with ⟨_, e⟩ | ⟨hi, _, e⟩ <;> rw [e]
  · exact h
  · have hb := h.byteInFlight (by rw [hi]; rfl)
    have hd := h.dataReleasedOutbound (.inr hi)
    have hq : s.cmdQ ≠ [] := by intro hq; simp [Sys2Proof.Machine.byteInFlight, hq] at hb
    obtain ⟨h1, h2, h3, h4, h5, h6, h7, h8, h9, h10, h11, h12, h13, h14, h15, h16, h17⟩ := h
    constructor <;> simp_all [emit_eq, linkResetAt_eq, AtState.isReceiveTag]

theorem inv_txTimeout {s : State} (h : s.Inv) (ts : Nat) : (txTimeout cfg ts s).Inv := by
  rcases txTimeout_cases cfg ts s with ⟨_, e⟩ | ⟨hi, _, e⟩ <;> rw [e]
  · exact h
  · have hnr : s.atBus.st.isReceiveTag = false := by
      cases hst : s.atBus.st <;> simp_all [AtState.isFrameSend, AtState.isReceiveTag, AtState.isFrameReceive]
    have hb := h.byteInFlight hnr
    have hq : s.cmdQ ≠ [] := by intro hq; simp [Sys2Proof.Machine.byteInFlight, hq] at hb
    have hbump := Counters.get_bump_lt h.countersFit .timeout
    obtain ⟨h1, h2, h3, h4, h5, h6, h7, h8, h9, h10, h11, h12, h13, h14, h15, h16, h17⟩ := h
    constructor <;> simp_all [emit_eq, raise_eq, linkResetAt_eq, AtState.isReceiveTag]

theorem inv_edgeByTag {s : State} (h : s.Inv) (data : Bit) (ts : Nat) : (edgeByTag cfg data ts s).Inv := by
  rcases edgeByTag_cases cfg data ts s with e | ⟨i, e⟩ | e | e | e | ⟨i, e⟩ | e <;> rw [e]
  · exact inv_rxStart h _ _
  · exact inv_rxData h _ _ _
  · exact inv_rxParity h _ _
  · exact inv_rxStop h _ _
  · exact h
  · exact inv_txBit h _ _
  · exact inv_txAck h _ _

theorem inv_onEdge {s : State} (h : s.Inv) (level data : Bit) (ts : Nat) : (onEdge cfg level data ts s).Inv := by
  rcases onEdge_cases cfg level data ts s with e | e | e | e | e <;> rw [e]
  · exact inv_withAsleep h _
  · exact inv_edgeByTag (inv_withAsleep h _) _ _
  · exact inv_rxTimeout (inv_withAsleep h _) _
  · exact inv_edgeByTag (inv_rxTimeout (inv_withAsleep h _) _) _ _
  · exact inv_txTimeout (inv_withAsleep h _) _

theorem xtFrameLen_pos (n : XtFrameBits) : 0 < xtFrameLen n := by cases n <;> decide

theorem inv_xtLoad {s : State} (h : s.Inv) (b : Byte) : (xtLoad b s).Inv := by
  have hp := xtFrameLen_pos cfg.xtFrameBits
  rcases xtLoad_cases b s with ⟨_, e⟩ | ⟨_, e⟩ <;> rw [e]
  · exact h
  · obtain ⟨h1, h2, h3, h4, h5, h6, h7, h8, h9, h10, h11, h12, h13, h14, h15, h16, h17⟩ := h
    constructor <;> simp_all [Sys2Proof.Machine.byteInFlight]

theorem inv_xtStep {s : State} (h : s.Inv) (xtClk : Bit) (ts : Nat) : (xtStep cfg xtClk ts s).Inv := by
  rcases xtStep_cases cfg xtClk ts s with ⟨_, e⟩ | ⟨p, hs, ⟨_, _, e⟩ | ⟨_, _, _, _, e⟩ | ⟨_, _, _, _, e⟩ | ⟨_, _, e⟩ |
    ⟨_, _, hp, e⟩ | ⟨_, _, hp, e⟩⟩ <;> rw [e]
  · exact h
  all_goals
    try have hlt := h.xtPosition p hs
    have hbump := Counters.get_bump_lt h.countersFit .transmitInhibitedExceeded
    obtain ⟨h1, h2, h3, h4, h5, h6, h7, h8, h9, h10, h11, h12, h13, h14, h15, h16, h17⟩ := h
    constructor <;>
      simp_all [emit_eq, raise_eq, xtRelease_eq, sendBitXt_eq, Sys2Proof.Machine.byteInFlight] <;> omega

theorem inv_queueCommand {s : State} (h : s.Inv) (k : Command) : (queueCommand cfg k s).Inv := by
  rcases queueCommand_cases cfg k s with ⟨hl, e⟩ | ⟨_, e⟩ <;> rw [e]
  · obtain ⟨h1, h2, h3, h4, h5, h6, h7, h8, h9, h10, h11, h12, h13, h14, h15, h16, h17⟩ := h
    constructor <;> first | assumption | skip
    · simp only [State.withCmdQ_cmdQ, List.length_append, List.length_singleton]; omega
    · intro ht
      have hb := h8 ht
      simp only [Sys2Proof.Machine.byteInFlight, State.withCmdQ_cmdQ, State.withCmdQ_atBus] at *
      cases hc : s.cmdQ <;> simp_all
    · intro hr
      exact ⟨(h15 hr).1, by simp⟩
  · exact inv_raise h _

theorem inv_brSetIndicators {s : State} (h : s.Inv) (mask : Byte) : (brSetIndicators cfg mask s).Inv :=
  inv_queueCommand (inv_withTr (inv_withAsleep h _) _) _

theorem inv_brReset {s : State} (h : s.Inv) : (brReset cfg s).Inv := inv_queueCommand (inv_withAsleep h _) _

/-- Once a report is consumed the queue may be shortened and its head advanced: no frame is being sent. -/
theorem inv_afterReport {s : State} (h : s.Inv) (hr : s.txResult ≠ .none) (q : List Command) (n : Nat)
    (hq : q.length ≤ cfg.cmdQCap) (hn : n < cfg.cmdMaxAttempts) :
    (((s.withTxResult .none).withCmdAttempts n).withCmdQ q).Inv := by
  have htag := (h.reportHasCommand hr).1
  obtain ⟨h1, h2, h3, h4, h5, h6, h7, h8, h9, h10, h11, h12, h13, h14, h15, h16, h17⟩ := h
  constructor <;> simp_all

theorem inv_consumeReport {s t : State} (h : s.Inv) (he : consumeReport cfg s = some t) : t.Inv := by
  have h0 : 0 < cfg.cmdMaxAttempts := by decide
  have hb := h.commandBound
  rcases consumeReport_cases cfg s t he with ⟨_, e⟩ | ⟨k, ks, hr, hq, _, e⟩ | ⟨k, ks, b, bs, hr, hq, _, e⟩ |
    ⟨hr, _, e⟩ | ⟨hr, hm, e⟩
  · rw [e]; exact h
  · rw [hq, List.length_cons] at hb
    have := inv_afterReport h (by rw [hr]; simp) ks 0 (by omega) h0
    rw [e]
    unfold commandComplete
    cases k.kind
    · exact this.congr rfl rfl rfl rfl rfl rfl rfl rfl rfl
    · exact this.congr rfl rfl rfl rfl rfl rfl rfl rfl rfl
  · rw [hq, List.length_cons] at hb
    rw [e]
    exact (inv_afterReport h (by rw [hr]; simp) ({ k with first := b, rest := bs } :: ks) 0 (by simpa using hb) h0).congr
      rfl rfl rfl rfl rfl rfl rfl rfl rfl
  · rw [e]
    exact inv_emit (inv_withKbdUnresponsive (inv_raise ((inv_afterReport h (by rw [hr]; simp) s.cmdQ.tail 0
      (by rw [List.length_tail]; omega) h0).congr rfl rfl rfl rfl rfl rfl rfl rfl rfl) _) _) _
  · rw [e]
    exact (inv_afterReport h (by rw [hr]; simp) s.cmdQ (s.cmdAttempts + 1) hb hm).congr rfl rfl rfl rfl rfl rfl rfl rfl rfl

theorem inv_advanceTransmitter {s : State} (h : s.Inv) (atClk : Bit) (ts : Nat) :
    (advanceTransmitter cfg atClk ts s).Inv := by
  rcases advanceTransmitter_cases cfg atClk ts s with ⟨_, e⟩ | ⟨_, e⟩ <;> rw [e]
  · exact inv_txRelease h _
  · exact inv_txRequest h _ _

theorem inv_brService {s t : State} (h : s.Inv) (atClk : Bit) (ts : Nat) (he : brService cfg atClk ts s = some t) :
    t.Inv := by
  unfold brService at he
  obtain ⟨u, hu, rfl⟩ := Option.map_eq_some_iff.mp he
  exact inv_advanceTransmitter (inv_consumeReport h hu) _ _

theorem inv_withQ_tail {s : State} (h : s.Inv) (f : Frame) (rest : List Frame) (hq : s.q = f :: rest) :
    (s.withQ rest).Inv := by
  obtain ⟨h1, h2, h3, h4, h5, h6, h7, h8, h9, h10, h11, h12, h13, h14, h15, h16, h17⟩ := h
  rw [hq, List.length_cons] at h1
  rw [hq] at h2
  constructor <;> first | assumption | skip
  · simp only [State.withQ_q]; omega
  · intro g hg; exact h2 g (List.mem_cons_of_mem _ hg)

theorem inv_withXtPending {s : State} (h : s.Inv) (xs : List Byte) (hx : xs.length ≤ cfg.xlatMaxOut) :
    (s.withXtPending xs).Inv := by
  obtain ⟨h1, h2, h3, h4, h5, h6, h7, h8, h9, h10, h11, h12, h13, h14, h15, h16, h17⟩ := h
  constructor <;> assumption

theorem inv_translate {s : State} (h : s.Inv) (b : Byte) :
    (translate cfg b s).2.Inv ∧ (translate cfg b s).1.length ≤ cfg.xlatMaxOut := by
  have h1 : cfg.xlatMaxOut = 1 := rfl
  rcases translate_cases cfg b s with ⟨_, e⟩ | ⟨_, e⟩ | ⟨_, xs, hx, e⟩ | ⟨_, _, e⟩ <;> rw [e]
  · exact ⟨inv_withTr h _, by simp⟩
  · exact ⟨inv_withTr h _, by simp⟩
  · exact ⟨inv_clearModeBits h, by rw [h1]; exact le_of_eq (defaultXlat_length _ _ _ _ hx)⟩
  · exact ⟨inv_clearModeBits (inv_raise h _), by simp⟩

theorem inv_pollDeadline {s : State} (h : s.Inv) (ts : Nat) : (pollDeadline cfg ts s).Inv := by
  rcases pollDeadline_cases cfg ts s with e | e | e <;> rw [e]
  · exact h
  · exact inv_rxTimeout h _
  · exact inv_txTimeout h _

theorem inv_popAndTranslate {s : State} (h : s.Inv) : (popAndTranslate cfg s).Inv := by
  rcases popAndTranslate_cases cfg s with e | ⟨f, rest, _, _, hq, e⟩ <;> rw [e]
  · exact h
  · have := inv_translate (inv_withQ_tail h f rest hq) f.payload
    exact inv_withXtPending this.1 _ this.2

theorem inv_loadPending {s : State} (h : s.Inv) : (loadPending s).Inv := by
  rcases loadPending_cases s with e | ⟨b, rest, hp, _, e⟩ <;> rw [e]
  · exact h
  · have hb := h.pendingBound
    rw [hp, List.length_cons] at hb
    exact inv_withXtPending (inv_xtLoad h _) _ (by omega)

theorem inv_dispatchPass {s t : State} (h : s.Inv) (atClk atData xtClk : Bit) (ts : Nat)
    (he : dispatchPass cfg atClk atData xtClk ts s = some t) : t.Inv := by
  unfold dispatchPass at he
  split at he
  · rw [← Option.some.inj he]; exact h
  · obtain ⟨u, hu, rfl⟩ := Option.map_eq_some_iff.mp he
    exact inv_withAsleep (inv_brService (inv_xtStep (inv_loadPending (inv_popAndTranslate (inv_pollDeadline h _))) _ _) _ _ hu) _

theorem inv_sampleEdge {s : State} (h : s.Inv) (atClk atData : Bit) (ts : Nat) :
    (sampleEdge cfg atClk atData ts s).Inv := by
  unfold sampleEdge
  dsimp only
  split
  · exact inv_withAtClkPrev (inv_onEdge (inv_withAsleep h _) _ _ _) _
  · exact inv_withAtClkPrev (inv_withAsleep h _) _

theorem inv_tickSample {s t : State} (h : s.Inv) (atClk atData xtClk : Bit) (ts : Nat)
    (he : tickSample cfg atClk atData xtClk ts s = some t) : t.Inv := by
  unfold tickSample at he
  split at he
  · exact inv_dispatchPass (inv_sampleEdge h _ _ _) _ _ _ _ he
  · rw [← Option.some.inj he]; exact h

theorem inv_fallingEdges (es : List (Bit × Nat)) : ∀ {s : State}, s.Inv → (fallingEdges cfg es s).Inv := by
  induction es with
  | nil => exact fun h => h
  | cons e es ih => exact fun h => ih (inv_onEdge h _ _ _)

theorem inv_xtPasses (ps : List (Bit × Nat)) : ∀ {s : State}, s.Inv → (xtPasses cfg ps s).Inv := by
  induction ps with
  | nil => exact fun h => h
  | cons p ps ih => exact fun h => ih (inv_xtStep h _ _)

theorem inv_sendFrame {s : State} (h : s.Inv) (v : Byte) (tReq tRel : Nat) (edges : List (Bit × Nat)) :
    (sendFrame cfg v tReq tRel edges s).Inv := by
  unfold sendFrame
  split
  · exact inv_fallingEdges _ (inv_txRelease (inv_txRequest h _ _) _)
  · exact h

theorem inv_transmitFrame {s : State} (h : s.Inv) (n : XtFrameBits) (v : Byte) (passes : List (Bit × Nat)) :
    (transmitFrame cfg n v passes s).Inv := by
  unfold transmitFrame
  split
  · exact inv_xtPasses _ (inv_xtLoad h _)
  · exact h

end Sys2Proof.Machine
end

