-- ==== Sys2Proof/Laws/PerInstr.lean ====
section
/-! SUPPORT. The per-instruction family DecodeEncode: decoding the word of an instruction gives the instruction
back. -/

namespace Sys2Proof

open Machine

theorem byteOfBits_dataBits : ∀ v : Byte, byteOfBits (v.getLsbD 0) (v.getLsbD 1) (v.getLsbD 2) (v.getLsbD 3)
    (v.getLsbD 4) (v.getLsbD 5) (v.getLsbD 6) (v.getLsbD 7) = v := by decide

theorem byteAt_one (b : Bit) (v : Byte) (rest : List Bit) : byteAt (b :: (dataBits v ++ rest)) 1 = v := by
  simpa [byteAt, dataBits] using byteOfBits_dataBits v

theorem byteAt_two (a b : Bit) (v : Byte) (rest : List Bit) : byteAt (a :: b :: (dataBits v ++ rest)) 2 = v := by
  simpa [byteAt, dataBits] using byteOfBits_dataBits v

theorem decodeAtWire_atWire (v : Byte) : decodeAtWire (atWire v) = .ok v := by
  have h : byteAt (atWire v) 1 = v := byteAt_one _ _ _
  unfold decodeAtWire
  rw [h]
  simp [atWire, dataBits]

theorem decodeXtWire_xtWire9 (v : Byte) (ps : List (Bit × Nat)) : decodeXtWire ps (xtWire9 v) = .ok (.xtFrame9 v ps) := by
  have h : byteAt (xtWire9 v) 1 = v := by simpa [xtWire9] using byteAt_one true v []
  unfold decodeXtWire
  rw [h]
  simp [xtWire9, dataBits]

theorem decodeXtWire_xtWire10 (v : Byte) (ps : List (Bit × Nat)) :
    decodeXtWire ps (xtWire10 v) = .ok (.xtFrame10 v ps) := by
  have h : byteAt (xtWire10 v) 2 = v := by simpa [xtWire10] using byteAt_two false true v []
  unfold decodeXtWire
  rw [h]
  simp [xtWire10, dataBits]

theorem map_snd_edges (times : List Nat) : (times.map fun ts => ((false, ts) : Bit × Nat)).map Prod.snd = times := by
  simp [Function.comp_def]

namespace Laws.DecodeEncode

/-- Decoding the word of `i`, with the times of `i`, gives `i`. -/
def Statement (i : Instr) : Prop := ∀ w, encode cfg i = some w → decode cfg w (scheduleOf i) = .ok i

theorem of_none {i : Instr} (h : encode cfg i = none) : Statement i := fun w hw => by rw [h] at hw; exact absurd hw (by simp)

theorem of_word {i : Instr} (u : Encoded) (h : encode cfg i = some u) (hd : decode cfg u (scheduleOf i) = .ok i) :
    Statement i := fun w hw => by rw [h] at hw; exact Option.some.inj hw ▸ hd

theorem linkOnEdge (level data : Bit) (ts : Nat) : Statement (.linkOnEdge level data ts) := of_none rfl
theorem linkSendBit (bus : Bus) (value : Bit) : Statement (.linkSendBit bus value) := of_none rfl
theorem linkIsInhibited (bus : Bus) (clkIn : Bit) : Statement (.linkIsInhibited bus clkIn) := of_none rfl
theorem linkTickSample (atClk atData xtClk : Bit) (ts : Nat) : Statement (.linkTickSample atClk atData xtClk ts) := of_none rfl
theorem linkXtEdge (level : Bit) (ts : Nat) : Statement (.linkXtEdge level ts) := of_none rfl
theorem rxStart (data : Bit) (ts : Nat) : Statement (.rxStart data ts) := of_none rfl
theorem rxData (i : Fin 8) (data : Bit) (ts : Nat) : Statement (.rxData i data ts) := of_none rfl
theorem rxParity (data : Bit) (ts : Nat) : Statement (.rxParity data ts) := of_none rfl
theorem rxStop (data : Bit) (ts : Nat) : Statement (.rxStop data ts) := of_none rfl
theorem rxTimeout (ts : Nat) : Statement (.rxTimeout ts) := of_none rfl
theorem txRequest (atClk : Bit) (ts : Nat) : Statement (.txRequest atClk ts) := of_none rfl
theorem txRelease (ts : Nat) : Statement (.txRelease ts) := of_none rfl
theorem txHoldEdge : Statement .txHoldEdge := of_none rfl
theorem txBit (i : Fin 10) (ts : Nat) : Statement (.txBit i ts) := of_none rfl
theorem txAck (data : Bit) (ts : Nat) : Statement (.txAck data ts) := of_none rfl
theorem txTimeout (ts : Nat) : Statement (.txTimeout ts) := of_none rfl
theorem xtLoad (b : Byte) : Statement (.xtLoad b) := of_none rfl
theorem xtStep (xtClk : Bit) (ts : Nat) : Statement (.xtStep xtClk ts) := of_none rfl
theorem xlPrefixE0 : Statement .xlPrefixE0 := of_none rfl
theorem xlPrefixF0 : Statement .xlPrefixF0 := of_none rfl
theorem xlData (b : Byte) (xs : List Byte) : Statement (.xlData b xs) := of_none rfl
theorem xlUnknown (b : Byte) : Statement (.xlUnknown b) := of_none rfl
theorem brSetIndicators (mask : Byte) : Statement (.brSetIndicators mask) := of_none rfl
theorem brReset : Statement .brReset := of_none rfl
theorem brService (atClk : Bit) (ts : Nat) : Statement (.brService atClk ts) := of_none rfl
theorem qPush (f : Frame) : Statement (.qPush f) := of_none rfl
theorem qPop : Statement .qPop := of_none rfl
theorem dispatchPass (atClk atData xtClk : Bit) (ts : Nat) : Statement (.dispatchPass atClk atData xtClk ts) := of_none rfl
theorem sysReset : Statement .sysReset := of_none rfl
theorem atRxFrame (v : Byte) (times : List Nat) : Statement (.atRxFrame v times) := 
  of_word _ rfl (by simp [decode, decodeFrame, decodeAtWire_atWire, scheduleOf, Function.comp_def])
theorem atTxFrame (v : Byte) (tReq tRel : Nat) (edges : List (Bit × Nat)) : Statement (.atTxFrame v tReq tRel edges) := 
  of_word _ rfl (by simp [decode, decodeFrame, decodeAtWire_atWire, scheduleOf])
theorem xtFrame9 (v : Byte) (passes : List (Bit × Nat)) : Statement (.xtFrame9 v passes) := 
  of_word _ rfl (decodeXtWire_xtWire9 v passes)
theorem xtFrame10 (v : Byte) (passes : List (Bit × Nat)) : Statement (.xtFrame10 v passes) := 
  of_word _ rfl (decodeXtWire_xtWire10 v passes)
theorem prefixE0 : Statement .prefixE0 := of_word _ rfl (by decide)
theorem prefixF0 : Statement .prefixF0 := of_word _ rfl (by decide)
theorem cmdSetLeds : Statement .cmdSetLeds := of_word _ rfl (by decide)
theorem cmdReset : Statement .cmdReset := of_word _ rfl (by decide)
theorem xlatPlainF9 : Statement .xlatPlainF9 := of_word _ rfl (by decide)
theorem xlatPlainF5 : Statement .xlatPlainF5 := of_word _ rfl (by decide)
theorem xlatPlainF3 : Statement .xlatPlainF3 := of_word _ rfl (by decide)
theorem xlatPlainF1 : Statement .xlatPlainF1 := of_word _ rfl (by decide)
theorem xlatPlainF2 : Statement .xlatPlainF2 := of_word _ rfl (by decide)
theorem xlatPlainF12 : Statement .xlatPlainF12 := of_word _ rfl (by decide)
theorem xlatPlainF10 : Statement .xlatPlainF10 := of_word _ rfl (by decide)
theorem xlatPlainF8 : Statement .xlatPlainF8 := of_word _ rfl (by decide)
theorem xlatPlainF6 : Statement .xlatPlainF6 := of_word _ rfl (by decide)
theorem xlatPlainF4 : Statement .xlatPlainF4 := of_word _ rfl (by decide)
theorem xlatPlainTab : Statement .xlatPlainTab := of_word _ rfl (by decide)
theorem xlatPlainBackquote : Statement .xlatPlainBackquote := of_word _ rfl (by decide)
theorem xlatPlainLAlt : Statement .xlatPlainLAlt := of_word _ rfl (by decide)
theorem xlatPlainLShift : Statement .xlatPlainLShift := of_word _ rfl (by decide)
theorem xlatPlainLCtrl : Statement .xlatPlainLCtrl := of_word _ rfl (by decide)
theorem xlatPlainQ : Statement .xlatPlainQ := of_word _ rfl (by decide)
theorem xlatPlain1 : Statement .xlatPlain1 := of_word _ rfl (by decide)
theorem xlatPlainZ : Statement .xlatPlainZ := of_word _ rfl (by decide)
theorem xlatPlainS : Statement .xlatPlainS := of_word _ rfl (by decide)
theorem xlatPlainA : Statement .xlatPlainA := of_word _ rfl (by decide)
theorem xlatPlainW : Statement .xlatPlainW := of_word _ rfl (by decide)
theorem xlatPlain2 : Statement .xlatPlain2 := of_word _ rfl (by decide)
theorem xlatPlainC : Statement .xlatPlainC := of_word _ rfl (by decide)
theorem xlatPlainX : Statement .xlatPlainX := of_word _ rfl (by decide)
theorem xlatPlainD : Statement .xlatPlainD := of_word _ rfl (by decide)
theorem xlatPlainE : Statement .xlatPlainE := of_word _ rfl (by decide)
theorem xlatPlain4 : Statement .xlatPlain4 := of_word _ rfl (by decide)
theorem xlatPlain3 : Statement .xlatPlain3 := of_word _ rfl (by decide)
theorem xlatPlainSpace : Statement .xlatPlainSpace := of_word _ rfl (by decide)
theorem xlatPlainV : Statement .xlatPlainV := of_word _ rfl (by decide)
theorem xlatPlainF : Statement .xlatPlainF := of_word _ rfl (by decide)
theorem xlatPlainT : Statement .xlatPlainT := of_word _ rfl (by decide)
theorem xlatPlainR : Statement .xlatPlainR := of_word _ rfl (by decide)
theorem xlatPlain5 : Statement .xlatPlain5 := of_word _ rfl (by decide)
theorem xlatPlainN : Statement .xlatPlainN := of_word _ rfl (by decide)
theorem xlatPlainB : Statement .xlatPlainB := of_word _ rfl (by decide)
theorem xlatPlainH : Statement .xlatPlainH := of_word _ rfl (by decide)
theorem xlatPlainG : Statement .xlatPlainG := of_word _ rfl (by decide)
theorem xlatPlainY : Statement .xlatPlainY := of_word _ rfl (by decide)
theorem xlatPlain6 : Statement .xlatPlain6 := of_word _ rfl (by decide)
theorem xlatPlainM : Statement .xlatPlainM := of_word _ rfl (by decide)
theorem xlatPlainJ : Statement .xlatPlainJ := of_word _ rfl (by decide)
theorem xlatPlainU : Statement .xlatPlainU := of_word _ rfl (by decide)
theorem xlatPlain7 : Statement .xlatPlain7 := of_word _ rfl (by decide)
theorem xlatPlain8 : Statement .xlatPlain8 := of_word _ rfl (by decide)
theorem xlatPlainComma : Statement .xlatPlainComma := of_word _ rfl (by decide)
theorem xlatPlainK : Statement .xlatPlainK := of_word _ rfl (by decide)
theorem xlatPlainI : Statement .xlatPlainI := of_word _ rfl (by decide)
theorem xlatPlainO : Statement .xlatPlainO := of_word _ rfl (by decide)
theorem xlatPlain0 : Statement .xlatPlain0 := of_word _ rfl (by decide)
theorem xlatPlain9 : Statement .xlatPlain9 := of_word _ rfl (by decide)
theorem xlatPlainPeriod : Statement .xlatPlainPeriod := of_word _ rfl (by decide)
theorem xlatPlainSlash : Statement .xlatPlainSlash := of_word _ rfl (by decide)
theorem xlatPlainL : Statement .xlatPlainL := of_word _ rfl (by decide)
theorem xlatPlainSemicolon : Statement .xlatPlainSemicolon := of_word _ rfl (by decide)
theorem xlatPlainP : Statement .xlatPlainP := of_word _ rfl (by decide)
theorem xlatPlainMinus : Statement .xlatPlainMinus := of_word _ rfl (by decide)
theorem xlatPlainQuote : Statement .xlatPlainQuote := of_word _ rfl (by decide)
theorem xlatPlainLBracket : Statement .xlatPlainLBracket := of_word _ rfl (by decide)
theorem xlatPlainEqual : Statement .xlatPlainEqual := of_word _ rfl (by decide)
theorem xlatPlainCapsLock : Statement .xlatPlainCapsLock := of_word _ rfl (by decide)
theorem xlatPlainRShift : Statement .xlatPlainRShift := of_word _ rfl (by decide)
theorem xlatPlainEnter : Statement .xlatPlainEnter := of_word _ rfl (by decide)
theorem xlatPlainRBracket : Statement .xlatPlainRBracket := of_word _ rfl (by decide)
theorem xlatPlainBackslash : Statement .xlatPlainBackslash := of_word _ rfl (by decide)
theorem xlatPlainIso102 : Statement .xlatPlainIso102 := of_word _ rfl (by decide)
theorem xlatPlainBackspace : Statement .xlatPlainBackspace := of_word _ rfl (by decide)
theorem xlatPlainKP1 : Statement .xlatPlainKP1 := of_word _ rfl (by decide)
theorem xlatPlainKP4 : Statement .xlatPlainKP4 := of_word _ rfl (by decide)
theorem xlatPlainKP7 : Statement .xlatPlainKP7 := of_word _ rfl (by decide)
theorem xlatPlainKP0 : Statement .xlatPlainKP0 := of_word _ rfl (by decide)
theorem xlatPlainKPDot : Statement .xlatPlainKPDot := of_word _ rfl (by decide)
theorem xlatPlainKP2 : Statement .xlatPlainKP2 := of_word _ rfl (by decide)
theorem xlatPlainKP5 : Statement .xlatPlainKP5 := of_word _ rfl (by decide)
theorem xlatPlainKP6 : Statement .xlatPlainKP6 := of_word _ rfl (by decide)
theorem xlatPlainKP8 : Statement .xlatPlainKP8 := of_word _ rfl (by decide)
theorem xlatPlainEsc : Statement .xlatPlainEsc := of_word _ rfl (by decide)
theorem xlatPlainNumLock : Statement .xlatPlainNumLock := of_word _ rfl (by decide)
theorem xlatPlainF11 : Statement .xlatPlainF11 := of_word _ rfl (by decide)
theorem xlatPlainKPPlus : Statement .xlatPlainKPPlus := of_word _ rfl (by decide)
theorem xlatPlainKP3 : Statement .xlatPlainKP3 := of_word _ rfl (by decide)
theorem xlatPlainKPMinus : Statement .xlatPlainKPMinus := of_word _ rfl (by decide)
theorem xlatPlainKPStar : Statement .xlatPlainKPStar := of_word _ rfl (by decide)
theorem xlatPlainKP9 : Statement .xlatPlainKP9 := of_word _ rfl (by decide)
theorem xlatPlainScrollLock : Statement .xlatPlainScrollLock := of_word _ rfl (by decide)
theorem xlatPlainF7 : Statement .xlatPlainF7 := of_word _ rfl (by decide)
theorem xlatPlainAltSysRq : Statement .xlatPlainAltSysRq := of_word _ rfl (by decide)
theorem xlatExtRAlt : Statement .xlatExtRAlt := of_word _ rfl (by decide)
theorem xlatExtFakeLShift : Statement .xlatExtFakeLShift := of_word _ rfl (by decide)
theorem xlatExtRCtrl : Statement .xlatExtRCtrl := of_word _ rfl (by decide)
theorem xlatExtLGui : Statement .xlatExtLGui := of_word _ rfl (by decide)
theorem xlatExtRGui : Statement .xlatExtRGui := of_word _ rfl (by decide)
theorem xlatExtApps : Statement .xlatExtApps := of_word _ rfl (by decide)
theorem xlatExtKPSlash : Statement .xlatExtKPSlash := of_word _ rfl (by decide)
theorem xlatExtFakeRShift : Statement .xlatExtFakeRShift := of_word _ rfl (by decide)
theorem xlatExtKPEnter : Statement .xlatExtKPEnter := of_word _ rfl (by decide)
theorem xlatExtEnd : Statement .xlatExtEnd := of_word _ rfl (by decide)
theorem xlatExtLeft : Statement .xlatExtLeft := of_word _ rfl (by decide)
theorem xlatExtHome : Statement .xlatExtHome := of_word _ rfl (by decide)
theorem xlatExtInsert : Statement .xlatExtInsert := of_word _ rfl (by decide)
theorem xlatExtDelete : Statement .xlatExtDelete := of_word _ rfl (by decide)
theorem xlatExtDown : Statement .xlatExtDown := of_word _ rfl (by decide)
theorem xlatExtRight : Statement .xlatExtRight := of_word _ rfl (by decide)
theorem xlatExtUp : Statement .xlatExtUp := of_word _ rfl (by decide)
theorem xlatExtPageDown : Statement .xlatExtPageDown := of_word _ rfl (by decide)
theorem xlatExtPrintScreen : Statement .xlatExtPrintScreen := of_word _ rfl (by decide)
theorem xlatExtPageUp : Statement .xlatExtPageUp := of_word _ rfl (by decide)
theorem xlatExtCtrlBreak : Statement .xlatExtCtrlBreak := of_word _ rfl (by decide)

end Laws.DecodeEncode

end Sys2Proof
end

