-- ==== Sys2Proof/Tests/Slice0.lean ====
section
/-! SUPPORT. The model's own tests: the refusals of WellFormed, the words of the opcode table written out bit by bit,
one-step vectors of 95_test_vectors.md, and for every statement with hypotheses a witness that meets them. -/

namespace Sys2Proof.Tests

open Sys2Proof Sys2Proof.Machine

/-! ### Helpers -/

/-- The configuration of the spec's vectors (95_test_vectors.md), in the part the rules read. -/
def vectorCfg : Cfg where
  samplingMode := .edge
  timeUnit := 1000
  queueCap := 16
  overflowPolicy := .dropNewest
  atBitTimeout := 200
  atReqHold := 120
  atAckTimeout := 2000
  cmdMaxAttempts := 3
  cmdQCap := 4
  xtFrameBits := .nine
  xtBitPeriod := 100
  xtClkLow := 40
  xtInhibitMaxWait := 1000
  xlat := defaultXlat
  xlatMaxOut := 1
  cmdSetLeds := 0xED#8
  cmdReset := 0xFF#8
  indMask := 0x07#8
  ctrWidth := 16
  tickPeriod := 20
  lateEdgeRestarts := true

/-- The reset state with the AT link at a tag and a deadline. -/
def busAt (st : AtState) (deadline : Option Nat) : State :=
  { State.reset with atBus := ⟨st, 0, false, false, deadline, 0, 0⟩ }

/-- The reset state with the XT link at position `p` of a byte. -/
def sendingAt (p : Nat) (v : Byte) (nextBitAt : Nat) (inhibitSince : Option Nat) : State :=
  { State.reset with xtBus := ⟨.sending p, v, false, nextBitAt, inhibitSince⟩ }

/-- The reset state with a queue of `n` commands. -/
def withCommands (n : Nat) : State := { State.reset with cmdQ := List.replicate n ⟨.reset, 0xFF#8, []⟩ }

/-- The reset state with a queue of `n` Frames. -/
def withFrames (n : Nat) : State := { State.reset with q := List.replicate n ⟨.atProto, 0x1C#8, false, true⟩ }

/-- The state an outcome ends in; the reset state for a stop. -/
def landed (o : Host.Outcome State Fault Refusal) : State :=
  match o with
  | .next t => t
  | .fault _ => State.reset
  | .refused _ => State.reset

/-- What an instruction returns, run with the given mode bits. -/
def returnedBy (i : Instr) (ext brk : Bit) : Returned :=
  (landed (exec i { State.reset with tr := ⟨ext, brk, 0⟩ })).ret

/-! ### The checks of WellFormed refuse -/

theorem test_wf_data_prefix_refused : (Instr.xlData 0xE0#8 [0x1E#8]).wellFormed cfg = false := by decide
theorem test_wf_data_empty_refused : (Instr.xlData 0x1C#8 []).wellFormed cfg = false := by decide
theorem test_wf_data_too_long_refused : (Instr.xlData 0x1C#8 [0x1E#8, 0x1F#8]).wellFormed cfg = false := by decide
theorem test_wf_unknown_prefix_refused : (Instr.xlUnknown 0xF0#8).wellFormed cfg = false := by decide
theorem test_wf_push_parity_refused : (Instr.qPush ⟨.atProto, 0x1C#8, true, true⟩).wellFormed cfg = false := by decide
theorem test_wf_push_proto_refused : (Instr.qPush ⟨.xtProto, 0x1C#8, false, true⟩).wellFormed cfg = false := by decide
theorem test_wf_push_invalid_refused : (Instr.qPush ⟨.atProto, 0x1C#8, false, false⟩).wellFormed cfg = false := by decide
theorem test_wf_rx_frame_short_refused : (Instr.atRxFrame 0x1C#8 (List.replicate 10 0)).wellFormed cfg = false := by decide
theorem test_wf_rx_frame_times_refused :
    (Instr.atRxFrame 0x1C#8 [9, 8, 9, 9, 9, 9, 9, 9, 9, 9, 9]).wellFormed cfg = false := by decide
theorem test_wf_tx_frame_short_refused :
    (Instr.atTxFrame 0xED#8 0 0 (List.replicate 10 (true, 0))).wellFormed cfg = false := by decide
theorem test_wf_tx_frame_times_refused :
    (Instr.atTxFrame 0xED#8 5 4 (List.replicate 11 (true, 6))).wellFormed cfg = false := by decide
theorem test_wf_xt_frame9_short_refused :
    (Instr.xtFrame9 0x1E#8 (List.replicate 8 (true, 0))).wellFormed cfg = false := by decide
theorem test_wf_xt_frame10_short_refused :
    (Instr.xtFrame10 0x1E#8 (List.replicate 9 (true, 0))).wellFormed cfg = false := by decide
theorem test_wf_xt_frame10_times_refused :
    (Instr.xtFrame10 0x1E#8 ((true, 1) :: List.replicate 9 (true, 0))).wellFormed cfg = false := by decide
theorem test_wf_accepted :
    (Instr.xlData 0x1C#8 [0x1E#8]).wellFormed cfg = true ∧ (Instr.qPush ⟨.atProto, 0x1C#8, false, true⟩).wellFormed cfg = true ∧
    (Instr.atRxFrame 0x1C#8 (List.replicate 11 0)).wellFormed cfg = true ∧
    (Instr.xtFrame9 0x1E#8 (List.replicate 9 (true, 0))).wellFormed cfg = true := by decide

/-! ### Words written out bit by bit (spec/opcode_table.json, 30_encoding.md) -/

/-- The plain page of the opcode table, part 1: the code as its eight bits, the entry, its make and break byte (R92). -/
def plainWords1 : List (Byte × Instr × Byte × Byte) :=
  [(0b00000001#8, Instr.xlatPlainF9, 0x43#8, 0xC3#8), (0b00000011#8, Instr.xlatPlainF5, 0x3F#8, 0xBF#8),
   (0b00000100#8, Instr.xlatPlainF3, 0x3D#8, 0xBD#8), (0b00000101#8, Instr.xlatPlainF1, 0x3B#8, 0xBB#8),
   (0b00000110#8, Instr.xlatPlainF2, 0x3C#8, 0xBC#8), (0b00000111#8, Instr.xlatPlainF12, 0x58#8, 0xD8#8),
   (0b00001001#8, Instr.xlatPlainF10, 0x44#8, 0xC4#8), (0b00001010#8, Instr.xlatPlainF8, 0x42#8, 0xC2#8),
   (0b00001011#8, Instr.xlatPlainF6, 0x40#8, 0xC0#8), (0b00001100#8, Instr.xlatPlainF4, 0x3E#8, 0xBE#8),
   (0b00001101#8, Instr.xlatPlainTab, 0x0F#8, 0x8F#8), (0b00001110#8, Instr.xlatPlainBackquote, 0x29#8, 0xA9#8),
   (0b00010001#8, Instr.xlatPlainLAlt, 0x38#8, 0xB8#8), (0b00010010#8, Instr.xlatPlainLShift, 0x2A#8, 0xAA#8),
   (0b00010100#8, Instr.xlatPlainLCtrl, 0x1D#8, 0x9D#8), (0b00010101#8, Instr.xlatPlainQ, 0x10#8, 0x90#8),
   (0b00010110#8, Instr.xlatPlain1, 0x02#8, 0x82#8), (0b00011010#8, Instr.xlatPlainZ, 0x2C#8, 0xAC#8),
   (0b00011011#8, Instr.xlatPlainS, 0x1F#8, 0x9F#8), (0b00011100#8, Instr.xlatPlainA, 0x1E#8, 0x9E#8),
   (0b00011101#8, Instr.xlatPlainW, 0x11#8, 0x91#8), (0b00011110#8, Instr.xlatPlain2, 0x03#8, 0x83#8),
   (0b00100001#8, Instr.xlatPlainC, 0x2E#8, 0xAE#8), (0b00100010#8, Instr.xlatPlainX, 0x2D#8, 0xAD#8),
   (0b00100011#8, Instr.xlatPlainD, 0x20#8, 0xA0#8), (0b00100100#8, Instr.xlatPlainE, 0x12#8, 0x92#8),
   (0b00100101#8, Instr.xlatPlain4, 0x05#8, 0x85#8), (0b00100110#8, Instr.xlatPlain3, 0x04#8, 0x84#8),
   (0b00101001#8, Instr.xlatPlainSpace, 0x39#8, 0xB9#8), (0b00101010#8, Instr.xlatPlainV, 0x2F#8, 0xAF#8)]

/-- The plain page of the opcode table, part 2: the code as its eight bits, the entry, its make and break byte (R92). -/
def plainWords2 : List (Byte × Instr × Byte × Byte) :=
  [(0b00101011#8, Instr.xlatPlainF, 0x21#8, 0xA1#8), (0b00101100#8, Instr.xlatPlainT, 0x14#8, 0x94#8),
   (0b00101101#8, Instr.xlatPlainR, 0x13#8, 0x93#8), (0b00101110#8, Instr.xlatPlain5, 0x06#8, 0x86#8),
   (0b00110001#8, Instr.xlatPlainN, 0x31#8, 0xB1#8), (0b00110010#8, Instr.xlatPlainB, 0x30#8, 0xB0#8),
   (0b00110011#8, Instr.xlatPlainH, 0x23#8, 0xA3#8), (0b00110100#8, Instr.xlatPlainG, 0x22#8, 0xA2#8),
   (0b00110101#8, Instr.xlatPlainY, 0x15#8, 0x95#8), (0b00110110#8, Instr.xlatPlain6, 0x07#8, 0x87#8),
   (0b00111010#8, Instr.xlatPlainM, 0x32#8, 0xB2#8), (0b00111011#8, Instr.xlatPlainJ, 0x24#8, 0xA4#8),
   (0b00111100#8, Instr.xlatPlainU, 0x16#8, 0x96#8), (0b00111101#8, Instr.xlatPlain7, 0x08#8, 0x88#8),
   (0b00111110#8, Instr.xlatPlain8, 0x09#8, 0x89#8), (0b01000001#8, Instr.xlatPlainComma, 0x33#8, 0xB3#8),
   (0b01000010#8, Instr.xlatPlainK, 0x25#8, 0xA5#8), (0b01000011#8, Instr.xlatPlainI, 0x17#8, 0x97#8),
   (0b01000100#8, Instr.xlatPlainO, 0x18#8, 0x98#8), (0b01000101#8, Instr.xlatPlain0, 0x0B#8, 0x8B#8),
   (0b01000110#8, Instr.xlatPlain9, 0x0A#8, 0x8A#8), (0b01001001#8, Instr.xlatPlainPeriod, 0x34#8, 0xB4#8),
   (0b01001010#8, Instr.xlatPlainSlash, 0x35#8, 0xB5#8), (0b01001011#8, Instr.xlatPlainL, 0x26#8, 0xA6#8),
   (0b01001100#8, Instr.xlatPlainSemicolon, 0x27#8, 0xA7#8), (0b01001101#8, Instr.xlatPlainP, 0x19#8, 0x99#8),
   (0b01001110#8, Instr.xlatPlainMinus, 0x0C#8, 0x8C#8), (0b01010010#8, Instr.xlatPlainQuote, 0x28#8, 0xA8#8),
   (0b01010100#8, Instr.xlatPlainLBracket, 0x1A#8, 0x9A#8), (0b01010101#8, Instr.xlatPlainEqual, 0x0D#8, 0x8D#8)]

/-- The plain page of the opcode table, part 3: the code as its eight bits, the entry, its make and break byte (R92). -/
def plainWords3 : List (Byte × Instr × Byte × Byte) :=
  [(0b01011000#8, Instr.xlatPlainCapsLock, 0x3A#8, 0xBA#8), (0b01011001#8, Instr.xlatPlainRShift, 0x36#8, 0xB6#8),
   (0b01011010#8, Instr.xlatPlainEnter, 0x1C#8, 0x9C#8), (0b01011011#8, Instr.xlatPlainRBracket, 0x1B#8, 0x9B#8),
   (0b01011101#8, Instr.xlatPlainBackslash, 0x2B#8, 0xAB#8), (0b01100001#8, Instr.xlatPlainIso102, 0x56#8, 0xD6#8),
   (0b01100110#8, Instr.xlatPlainBackspace, 0x0E#8, 0x8E#8), (0b01101001#8, Instr.xlatPlainKP1, 0x4F#8, 0xCF#8),
   (0b01101011#8, Instr.xlatPlainKP4, 0x4B#8, 0xCB#8), (0b01101100#8, Instr.xlatPlainKP7, 0x47#8, 0xC7#8),
   (0b01110000#8, Instr.xlatPlainKP0, 0x52#8, 0xD2#8), (0b01110001#8, Instr.xlatPlainKPDot, 0x53#8, 0xD3#8),
   (0b01110010#8, Instr.xlatPlainKP2, 0x50#8, 0xD0#8), (0b01110011#8, Instr.xlatPlainKP5, 0x4C#8, 0xCC#8),
   (0b01110100#8, Instr.xlatPlainKP6, 0x4D#8, 0xCD#8), (0b01110101#8, Instr.xlatPlainKP8, 0x48#8, 0xC8#8),
   (0b01110110#8, Instr.xlatPlainEsc, 0x01#8, 0x81#8), (0b01110111#8, Instr.xlatPlainNumLock, 0x45#8, 0xC5#8),
   (0b01111000#8, Instr.xlatPlainF11, 0x57#8, 0xD7#8), (0b01111001#8, Instr.xlatPlainKPPlus, 0x4E#8, 0xCE#8),
   (0b01111010#8, Instr.xlatPlainKP3, 0x51#8, 0xD1#8), (0b01111011#8, Instr.xlatPlainKPMinus, 0x4A#8, 0xCA#8),
   (0b01111100#8, Instr.xlatPlainKPStar, 0x37#8, 0xB7#8), (0b01111101#8, Instr.xlatPlainKP9, 0x49#8, 0xC9#8),
   (0b01111110#8, Instr.xlatPlainScrollLock, 0x46#8, 0xC6#8), (0b10000011#8, Instr.xlatPlainF7, 0x41#8, 0xC1#8),
   (0b10000100#8, Instr.xlatPlainAltSysRq, 0x54#8, 0xD4#8)]

/-- The extended page of the opcode table (R93). -/
def extWords : List (Byte × Instr × Byte × Byte) :=
  [(0b00010001#8, Instr.xlatExtRAlt, 0x38#8, 0xB8#8), (0b00010010#8, Instr.xlatExtFakeLShift, 0x2A#8, 0xAA#8),
   (0b00010100#8, Instr.xlatExtRCtrl, 0x1D#8, 0x9D#8), (0b00011111#8, Instr.xlatExtLGui, 0x5B#8, 0xDB#8),
   (0b00100111#8, Instr.xlatExtRGui, 0x5C#8, 0xDC#8), (0b00101111#8, Instr.xlatExtApps, 0x5D#8, 0xDD#8),
   (0b01001010#8, Instr.xlatExtKPSlash, 0x35#8, 0xB5#8), (0b01011001#8, Instr.xlatExtFakeRShift, 0x36#8, 0xB6#8),
   (0b01011010#8, Instr.xlatExtKPEnter, 0x1C#8, 0x9C#8), (0b01101001#8, Instr.xlatExtEnd, 0x4F#8, 0xCF#8),
   (0b01101011#8, Instr.xlatExtLeft, 0x4B#8, 0xCB#8), (0b01101100#8, Instr.xlatExtHome, 0x47#8, 0xC7#8),
   (0b01110000#8, Instr.xlatExtInsert, 0x52#8, 0xD2#8), (0b01110001#8, Instr.xlatExtDelete, 0x53#8, 0xD3#8),
   (0b01110010#8, Instr.xlatExtDown, 0x50#8, 0xD0#8), (0b01110100#8, Instr.xlatExtRight, 0x4D#8, 0xCD#8),
   (0b01110101#8, Instr.xlatExtUp, 0x48#8, 0xC8#8), (0b01111010#8, Instr.xlatExtPageDown, 0x51#8, 0xD1#8),
   (0b01111100#8, Instr.xlatExtPrintScreen, 0x37#8, 0xB7#8), (0b01111101#8, Instr.xlatExtPageUp, 0x49#8, 0xC9#8),
   (0b01111110#8, Instr.xlatExtCtrlBreak, 0x46#8, 0xC6#8)]

theorem test_decode_plain_1 : ∀ p ∈ plainWords1, decodePayload cfg false p.1 = .ok p.2.1 := by decide
theorem test_decode_plain_2 : ∀ p ∈ plainWords2, decodePayload cfg false p.1 = .ok p.2.1 := by decide
theorem test_decode_plain_3 : ∀ p ∈ plainWords3, decodePayload cfg false p.1 = .ok p.2.1 := by decide
theorem test_decode_extended : ∀ p ∈ extWords, decodePayload cfg true p.1 = .ok p.2.1 := by decide

/-- Each entry of the plain page returns its make byte, and its break byte after 0xF0 (R92, R193; vector X6). -/
theorem test_exec_plain_1 : ∀ p ∈ plainWords1, returnedBy p.2.1 false false = .bytes [p.2.2.1] ∧
    returnedBy p.2.1 false true = .bytes [p.2.2.2] := by decide
theorem test_exec_plain_2 : ∀ p ∈ plainWords2, returnedBy p.2.1 false false = .bytes [p.2.2.1] ∧
    returnedBy p.2.1 false true = .bytes [p.2.2.2] := by decide
theorem test_exec_plain_3 : ∀ p ∈ plainWords3, returnedBy p.2.1 false false = .bytes [p.2.2.1] ∧
    returnedBy p.2.1 false true = .bytes [p.2.2.2] := by decide
/-- The same of the extended page (R93, R193; vector X6). -/
theorem test_exec_extended : ∀ p ∈ extWords, returnedBy p.2.1 true false = .bytes [p.2.2.1] ∧
    returnedBy p.2.1 true true = .bytes [p.2.2.2] := by decide

theorem test_decode_prefixes : ∀ ext : Bit, decodePayload cfg ext 0b11100000#8 = .ok .prefixE0 ∧
    decodePayload cfg ext 0b11110000#8 = .ok .prefixF0 := by decide
theorem test_decode_commands : decodeCommand cfg 0b11101101#8 = .ok .cmdSetLeds ∧
    decodeCommand cfg 0b11111111#8 = .ok .cmdReset := by decide
/-- A code of no page, a byte that begins no command, and wire strings of R97 are rejected by name. -/
theorem test_decode_rejects :
    decodePayload cfg false 0x02#8 = .error (.unknownScanCode 0x02#8) ∧
    decodePayload cfg true 0x1C#8 = .error (.unknownScanCode 0x1C#8) ∧
    decodeCommand cfg 0xEE#8 = .error (.noSuchCommand 0xEE#8) ∧
    decodeAtWire [true, false, false, true, true, true, false, false, false, false, true] = .error .badStartBit ∧
    decodeAtWire [false, false, false, true, true, true, false, false, false, true, true] = .error .badParity ∧
    decodeAtWire [false, false, false, true, true, true, false, false, false, false, false] = .error .badStopBit ∧
    decodeAtWire [false] = .error (.badLength 1) ∧
    decodeXtWire [] [false, false, true, true, true, true, false, false, false] = .error .badStartBit := by decide

/-- The wire string of 0xF0, `0 00001111 1 1`, inbound (vector group F). -/
theorem test_decode_at_rx_frame :
    decodeFrame .atRx [false, false, false, false, false, true, true, true, true, true, true] ⟨0, 0, [(true, 4)]⟩ =
      .ok (.atRxFrame 0xF0#8 [4]) := by decide
/-- The wire string of 0x02, `0 01000000 0 1`, outbound (vector group F). -/
theorem test_decode_at_tx_frame :
    decodeFrame .atTx [false, false, true, false, false, false, false, false, false, false, true] ⟨1, 2, []⟩ =
      .ok (.atTxFrame 0x02#8 1 2 []) := by decide
/-- The wire string of 0x48, `1 00010010` (vector group F). -/
theorem test_decode_xt_frame9 : decodeFrame .xt [true, false, false, false, true, false, false, true, false] ⟨0, 0, []⟩ =
    .ok (.xtFrame9 0x48#8 []) := by decide
/-- The wire string of 0x9E, `0 1 01111001` (vector group F). -/
theorem test_decode_xt_frame10 :
    decodeFrame .xt [false, true, false, true, true, true, true, false, false, true] ⟨0, 0, []⟩ =
      .ok (.xtFrame10 0x9E#8 []) := by decide

/-- Table words, bit 0 first on the wire (log 15). -/
theorem test_table_word_bytes : decodeTableWord 8 0xE0 = some .prefixE0 ∧ decodeTableWord 8 0xED = some .cmdSetLeds ∧
    decodeTableWord 8 0x1C = some .xlatPlainA ∧ decodeTableWord 8 0x1F = some .xlatExtLGui ∧
    decodeTableWord 8 0x02 = none := by decide
theorem test_table_word_frames : decodeTableWord 16 0b10000111000 = some (.atRxFrame 0x1C#8 (List.replicate 11 0)) ∧
    decodeTableWord 16 0b000111101 = some (.xtFrame9 0x1E#8 (List.replicate 11 (true, 0))) ∧
    decodeTableWord 16 0b0001111010 = some (.xtFrame10 0x1E#8 (List.replicate 11 (true, 0))) ∧
    decodeTableWord 16 0b100000000 = some (.xtFrame9 0#8 (List.replicate 11 (true, 0))) := by decide

/-- A placed payload word is fetched and run by the very next step: 0x75 on the extended page gives 0x48 (R93). -/
theorem test_fetch_word_runs : (landed (step (State.reset.withFetchWord 8 0x1F))).xtPending = [0x5B#8] ∧
    (landed (step (State.reset.withFetchWord 8 0x1C))).xtPending = [0x1E#8] := by decide
theorem test_fetch_command_runs :
    (landed (step (State.reset.withFetchWord 8 0xED))).cmdQ = [⟨.setLeds, 0xED#8, [0#8]⟩] ∧
    (landed (step (State.reset.withFetchWord 8 0xFF))).cmdQ = [⟨.reset, 0xFF#8, []⟩] := by decide

/-! ### One-step vectors of 95_test_vectors.md -/

/-- `P(0x1C) = 0`, `P(0xF0) = 1`, `P(0x00) = 1`, `P(0xFF) = 1` (R85). -/
theorem test_parity_examples : oddParity 0x1C#8 = false ∧ oddParity 0xF0#8 = true ∧ oddParity 0x00#8 = true ∧
    oddParity 0xFF#8 = true := by decide
/-- RX1, event 1. -/
theorem test_rx1_start : (onEdge vectorCfg false false 100 State.reset).atBus =
    ⟨.receiving 0, 0, false, false, some 300, 0, 0⟩ := by decide
/-- RX1, event 5. -/
theorem test_rx1_data : (onEdge vectorCfg false true 420
    { State.reset with atBus := ⟨.receiving 3, 0x04#8, true, false, some 540, 0, 0⟩ }).atBus =
    ⟨.receiving 4, 0x0C#8, false, false, some 620, 0, 0⟩ := by decide
/-- RX1, event 10. -/
theorem test_rx1_parity : (onEdge vectorCfg false false 820
    { State.reset with atBus := ⟨.receiving 8, 0x1C#8, true, false, some 940, 0, 0⟩ }).atBus =
    ⟨.parityCheck, 0x1C#8, true, false, some 1020, 0, 0⟩ := by decide
/-- RX1, event 11, with the AT link reset to its idle values. -/
theorem test_rx1_stop : onEdge vectorCfg false true 900
    { State.reset with atBus := ⟨.parityCheck, 0x1C#8, true, false, some 1020, 0, 0⟩ } =
    { State.reset with q := [⟨.atProto, 0x1C#8, false, true⟩] } := by decide
/-- RX2: a bad start bit. -/
theorem test_rx2_bad_start : onEdge vectorCfg false true 100 State.reset =
    { State.reset with err := ⟨1, 0, 0, 0, 0, 0, 0⟩ } := by decide
/-- RX4 and RX5: bad parity, and bad parity with a bad stop bit. -/
theorem test_rx4_rx5_order :
    (onEdge vectorCfg false true 900
      { State.reset with atBus := ⟨.parityCheck, 0x1C#8, true, true, some 1020, 0, 0⟩ }).err = ⟨0, 1, 0, 0, 0, 0, 0⟩ ∧
    (onEdge vectorCfg false false 900
      { State.reset with atBus := ⟨.parityCheck, 0x1C#8, true, true, some 1020, 0, 0⟩ }).err =
        ⟨1, 0, 0, 0, 0, 0, 0⟩ := by decide
/-- RX6: in time at 700; late at 701 with data 1 counts two errors. -/
theorem test_rx6_deadline :
    (onEdge vectorCfg false false 700 (busAt (.receiving 5) (some 700))).atBus.st = .receiving 6 ∧
    (onEdge vectorCfg false false 701 (busAt (.receiving 5) (some 700))).atBus.st = .receiving 0 ∧
    (onEdge vectorCfg false true 701 (busAt (.receiving 5) (some 700))).err = ⟨1, 0, 1, 0, 0, 0, 0⟩ ∧
    (onEdge { vectorCfg with lateEdgeRestarts := false } false false 701 (busAt (.receiving 5) (some 700))).atBus.st =
      .idle := by decide
/-- RX7, event 2: the poll abandons the frame and the loop sleeps. -/
theorem test_rx7_poll : dispatchPass vectorCfg true true true 701 (busAt (.receiving 5) (some 700)) =
    some { State.reset with err := ⟨0, 0, 1, 0, 0, 0, 0⟩, asleep := true } := by decide
/-- RX8: a rising edge changes nothing but the low-power wait. -/
theorem test_rx8_rising : onEdge vectorCfg true false 900 (busAt (.receiving 5) (some 700)) =
    busAt (.receiving 5) (some 700) := by decide
/-- Q1, event 3: drop-newest at capacity 2. -/
theorem test_q1_overflow : queuePush { vectorCfg with queueCap := 2 } ⟨.atProto, 0x23#8, false, true⟩ (withFrames 2) =
    { withFrames 2 with err := ⟨0, 0, 0, 1, 0, 0, 0⟩ } := by decide
/-- T1, event 2. -/
theorem test_t1_request : txRequest vectorCfg true 1000 { State.reset with cmdQ := [⟨.setLeds, 0xED#8, [0x02#8]⟩] } =
    { State.reset with
      cmdQ := [⟨.setLeds, 0xED#8, [0x02#8]⟩], atBus := ⟨.txHold, 0, false, false, none, 0xED#8, 1120⟩,
      pins := ⟨true, false, true, true⟩ } := by decide
/-- T1, events 3, 4 and 5: the core's own edge, a pass too early, the release at exactly `hold_until`. -/
theorem test_t1_hold_and_release :
    onEdge vectorCfg false true 1001 (busAt .txHold none) = busAt .txHold none ∧
    txRelease vectorCfg 1119 { busAt .txHold none with atBus := ⟨.txHold, 0, true, false, none, 0xED#8, 1120⟩ } =
      { busAt .txHold none with atBus := ⟨.txHold, 0, true, false, none, 0xED#8, 1120⟩ } ∧
    (txRelease vectorCfg 1120 { busAt .txHold none with atBus := ⟨.txHold, 0, true, false, none, 0xED#8, 1120⟩ }).atBus =
      ⟨.txSending 0, 0, false, false, some 3120, 0xED#8, 1120⟩ := by decide
/-- T1, events 7 and 15: the first data bit and the parity bit. -/
theorem test_t1_bits :
    onEdge vectorCfg false false 1300
      { State.reset with atBus := ⟨.txSending 0, 0, false, false, some 3120, 0xED#8, 0⟩ } =
      { State.reset with
        atBus := ⟨.txSending 1, 0, true, false, some 3300, 0xED#8, 0⟩, trace := [.atTxBit true] } ∧
    (onEdge vectorCfg false false 1940
      { State.reset with atBus := ⟨.txSending 8, 0, false, false, some 3860, 0xED#8, 0⟩ }).trace =
      [.atTxBit true] := by decide
/-- T1, event 17: the acknowledgment edge. -/
theorem test_t1_ack : onEdge vectorCfg false false 2100
    { State.reset with atBus := ⟨.txAwaitAck, 0, false, false, some 4020, 0xED#8, 0⟩ } =
    { State.reset with txResult := .delivered, trace := [.atTxDelivered 0xED#8] } := by decide
/-- T2: the report is consumed and the next byte requested in the same pass. -/
theorem test_t2_next_byte : (brService vectorCfg true 2300
    { State.reset with cmdQ := [⟨.setLeds, 0xED#8, [0x02#8]⟩], txResult := .delivered }).map
      (fun s => (s.atBus.st, s.atBus.txByte, s.atBus.holdUntil, s.cmdQ, s.txResult)) =
    some (.txHold, 0x02#8, 2420, [⟨.setLeds, 0x02#8, []⟩], .none) := by decide
/-- T4: a late edge on the transmit path is dropped. -/
theorem test_t4_late : onEdge vectorCfg false false 3600
    { State.reset with atBus := ⟨.txSending 4, 0, true, false, some 3540, 0xED#8, 0⟩ } =
    { State.reset with
      txResult := .failed, err := ⟨0, 0, 1, 0, 0, 0, 0⟩, trace := [.atTxFailed 0xED#8] } := by decide
/-- T5, event 8: giving up after three attempts. -/
theorem test_t5_give_up : brService vectorCfg true 7363
    { State.reset with cmdQ := [⟨.reset, 0xFF#8, []⟩], cmdAttempts := 2, txResult := .failed } =
    some { State.reset with
      kbdUnresponsive := true, err := ⟨0, 0, 0, 0, 0, 0, 1⟩, trace := [.keyboardUnresponsive] } := by decide
/-- T6: a request waits while the AT clock reads low. -/
theorem test_t6_waits : txRequest vectorCfg false 270 (withCommands 1) = withCommands 1 := by decide
/-- T7: an acknowledged reset clears the translator. -/
theorem test_t7_reset_ack : dispatchPass vectorCfg true true true 9000
    { State.reset with tr := ⟨true, false, 0x05#8⟩, cmdQ := [⟨.reset, 0xFF#8, []⟩], txResult := .delivered } =
    some { State.reset with asleep := true } := by decide
/-- B, events 1 and 5: the mask is cut; a full queue drops the request but Indicator State is updated. -/
theorem test_b_indicators :
    (landed (exec (.brSetIndicators 0xFF#8) State.reset)).cmdQ = [⟨.setLeds, 0xED#8, [0x07#8]⟩] ∧
    landed (exec (.brSetIndicators 0x04#8) (withCommands 4)) =
      { withCommands 4 with tr := ⟨false, false, 0x04#8⟩, err := ⟨0, 0, 0, 0, 0, 0, 1⟩ } := by decide
/-- B, event 2. -/
theorem test_b_reset : (landed (exec .brReset State.reset)).cmdQ = [⟨.reset, 0xFF#8, []⟩] := by decide
/-- H1, events 1 and 9: the first bit, and the last bit with the byte. -/
theorem test_h1_bits :
    (dispatchPass vectorCfg true true true 1000 (withFrames 1)).map (fun s => (s.xtBus, s.q, s.trace, s.asleep)) =
      some (⟨.sending 1, 0x1E#8, false, 1100, none⟩, [], [.xtBit true], false) ∧
    dispatchPass vectorCfg true true true 1800 (sendingAt 8 0x1E#8 1800 none) =
      some { State.reset with
        xtBus := ⟨.idle, 0, false, 1900, none⟩, trace := [.xtBit false, .xtByte 0x1E#8], asleep := true } := by decide
/-- H3, events 2, 5 and 8: too early, a stall begins, the bus is free again. -/
theorem test_h3_inhibit :
    xtStep vectorCfg true 1050 (sendingAt 1 0x1E#8 1100 none) = sendingAt 1 0x1E#8 1100 none ∧
    xtStep vectorCfg false 1300 (sendingAt 3 0x1E#8 1300 none) = sendingAt 3 0x1E#8 1300 (some 1300) ∧
    (xtStep vectorCfg true 2301 (sendingAt 3 0x1E#8 1300 (some 1300))).trace = [.xtBit true] := by decide
/-- H4, events 2 and 3: at exactly the maximum wait the byte is kept, after it dropped. -/
theorem test_h4_drop :
    xtStep vectorCfg false 2300 (sendingAt 3 0x1E#8 1300 (some 1300)) = sendingAt 3 0x1E#8 1300 (some 1300) ∧
    xtStep vectorCfg false 2301 (sendingAt 3 0x1E#8 1300 (some 1300)) =
      { State.reset with
        xtBus := ⟨.idle, 0, false, 1300, none⟩, err := ⟨0, 0, 0, 0, 0, 1, 0⟩, trace := [.xtDropped 0x1E#8] } := by
  decide
/-- R171: a load keeps `next_bit_at`. -/
theorem test_xt_load : xtLoad 0x1E#8 { State.reset with xtBus := ⟨.idle, 0, false, 77, none⟩ } =
    sendingAt 0 0x1E#8 77 none := by decide
/-- R191 and R192: `(1,0)`, byte 0xF0 gives `(1,1)`. -/
theorem test_prefixes : (landed (exec .xlPrefixF0 { State.reset with tr := ⟨true, false, 0⟩ })).tr = ⟨true, true, 0⟩ ∧
    (landed (exec .xlPrefixE0 State.reset)).tr = ⟨true, false, 0⟩ := by decide
/-- R193: `(0,1)`, byte 0x1C gives `[0x9E]`; R194: `(1,0)`, byte 0x1C has no entry. -/
theorem test_data_and_unknown :
    (landed (exec (.xlData 0x1C#8 [0x9E#8]) { State.reset with tr := ⟨false, true, 0⟩ })).ret = .bytes [0x9E#8] ∧
    (landed (exec (.xlUnknown 0x1C#8) { State.reset with tr := ⟨true, false, 0⟩ })).err = ⟨0, 0, 0, 0, 1, 0, 0⟩ := by
  decide
/-- R112: during a pass with the AT clock high and the XT clock low, only the XT bus is inhibited. -/
theorem test_is_inhibited : (landed (exec (.linkIsInhibited .xtBus false) State.reset)).ret = .bit true ∧
    (landed (exec (.linkIsInhibited .atBus true) State.reset)).ret = .bit false := by decide
/-- R111: `LINK.SEND_BIT(XT, 1)` from `xt_data_out = 0`. -/
theorem test_send_bit_xt : landed (exec (.linkSendBit .xtBus true) { State.reset with pins := ⟨false, false, true, false⟩ }) =
    { State.reset with trace := [.xtBit true] } := by decide
/-- R221: `S.q = [f1, f2]` returns `f1`. -/
theorem test_pop : landed (exec .qPop { State.reset with q := [⟨.atProto, 1, false, true⟩, ⟨.atProto, 2, false, true⟩] }) =
    { State.reset with q := [⟨.atProto, 2, false, true⟩], ret := .frame ⟨.atProto, 1, false, true⟩ } := by decide
/-- R113: `S.at_clk_prev = 1`, `Tick(0, 0, 1, 40)` in `Idle` runs `RX.START(0, 40)` and then a pass. -/
theorem test_tick : tickSample { vectorCfg with samplingMode := .timer } false false true 40 State.reset =
    some { State.reset with atBus := ⟨.receiving 0, 0, false, false, some 240, 0, 0⟩, atClkPrev := false } := by decide
/-- R242: a counter saturates, at the width the configuration gives, be it 2, 16 or 20. -/
theorem test_saturates : saturatingSucc 16 0xFFFF = 0xFFFF ∧ saturatingSucc 16 0xFFFE = 0xFFFF ∧
    saturatingSucc 2 2 = 3 ∧ saturatingSucc 2 3 = 3 ∧ saturatingSucc 20 0xFFFF = 0x10000 ∧
    saturatingSucc 20 0xFFFFF = 0xFFFFF := by decide
/-- R21: the table of bit positions. -/
theorem test_bitpos : AtState.idle.bitpos = some 0 ∧ (AtState.receiving 0).bitpos = some 1 ∧
    (AtState.receiving 7).bitpos = some 8 ∧ (AtState.receiving 8).bitpos = some 9 ∧
    AtState.parityCheck.bitpos = some 10 ∧ AtState.txHold.bitpos = none ∧ (AtState.txSending 0).bitpos = some 1 ∧
    (AtState.txSending 8).bitpos = some 9 ∧ (AtState.txSending 9).bitpos = some 10 ∧
    AtState.txAwaitAck.bitpos = some 11 := by decide
/-- R43: a line the core pulls low reads 0; a released one reads as it is driven. -/
theorem test_read_levels : readEvent ⟨true, false, true, true⟩ (.tick true true true 40) = .tick false true true 40 ∧
    readEvent ⟨false, true, true, true⟩ (.atEdge true true 40) = .atEdge true false 40 ∧
    readEvent ⟨true, true, true, true⟩ (.pass true true false 40) = .pass false false false 40 := by decide
/-- R113, corner case, with R43: while the core holds the clock low the next tick reads 0, a 1-to-0 change that is
`TX.HOLD_EDGE`. -/
theorem test_tick_hold : sampleEdge vectorCfg (lineRead true true) true 40
    { busAt .txHold none with pins := ⟨true, false, true, true⟩ } =
    { busAt .txHold none with pins := ⟨true, false, true, true⟩, atClkPrev := false } := by decide
/-- R280: a reset leaves nothing of the state before. -/
theorem test_reset : landed (exec .sysReset (sendingAt 3 0x1E#8 1300 none)) = State.reset := by decide
/-- RX1 in one instruction of the model. -/
theorem test_capture : (captureFrame vectorCfg 0x1C#8 [100, 180, 260, 340, 420, 500, 580, 660, 740, 820, 900]
    State.reset).q = [⟨.atProto, 0x1C#8, false, true⟩] := by decide
/-- T1 in one instruction of the model. -/
theorem test_send_frame : (sendFrame vectorCfg 0xED#8 1000 1120 (List.replicate 11 (false, 1300))
    { State.reset with cmdQ := [⟨.setLeds, 0xED#8, [0x02#8]⟩] }).trace =
    [.atTxBit true, .atTxBit false, .atTxBit true, .atTxBit true, .atTxBit false, .atTxBit true, .atTxBit true,
      .atTxBit true, .atTxBit true, .atTxBit true, .atTxDelivered 0xED#8] := by decide
/-- H1 and H2 in one instruction of the model. -/
theorem test_transmit_frame :
    (transmitFrame vectorCfg .nine 0x1E#8 ((List.range 9).map fun k => (true, 100 * k)) State.reset).trace =
      [true, false, true, true, true, true, false, false, false].map Output.xtBit ++ [.xtByte 0x1E#8] ∧
    (transmitFrame { vectorCfg with xtFrameBits := .ten } .ten 0x1E#8 ((List.range 10).map fun k => (true, 100 * k))
      State.reset).trace =
      [false, true, false, true, true, true, true, false, false, false].map Output.xtBit ++ [.xtByte 0x1E#8] := by
  decide

/-! ### Cores of other builds (R8, R94) -/

/-- A Translation Table of a core that is not the machine's: 0x1C as R91 (a) has it, and two bytes for extended 0x75. -/
def twoByteXlat (ext brk : Bit) (code : Byte) : Option (List Byte) :=
  if ext = false ∧ code = 0x1C#8 then some [if brk then 0x9E#8 else 0x1E#8]
  else if ext = true ∧ code = 0x75#8 then some (if brk then [0xAA#8, 0xC8#8] else [0x2A#8, 0x48#8])
  else none

/-- The reset state with a payload byte popped, at its place in a pass. -/
def popped (b : Byte) (tr : Translator) : State :=
  { State.reset with
    tr := tr, pass := some ⟨.translate, true, true, true, 0⟩, ret := .frame ⟨.atProto, b, oddParity b, true⟩ }

/-- With that table: a row of the opcode table that the core has still decodes, one that it does not have is rejected, an
entry that is not the opcode table's row is output whole, and an unknown byte is counted. -/
theorem test_other_table :
    let c := { vectorCfg with xlat := twoByteXlat, xlatMaxOut := 2 }
    decodePayload c false 0x1C#8 = .ok .xlatPlainA ∧
    decodePayload c false 0x1D#8 = .error (.unknownScanCode 0x1D#8) ∧
    (landed (stepFor c (popped 0x75#8 ⟨true, true, 0⟩))).xtPending = [0xAA#8, 0xC8#8] ∧
    (landed (stepFor c (popped 0x1D#8 ⟨false, false, 0⟩))).err = ⟨0, 0, 0, 0, 1, 0, 0⟩ ∧
    landed (execFor c .xlatPlainW State.reset) = State.reset := by decide

/-- In a core of another build an event of the other sampling mode is refused, and a counter saturates at its width. -/
theorem test_other_build :
    let s : State := { State.reset with err := ⟨3, 0, 0, 0, 0, 0, 0⟩ }
    stepFor { vectorCfg with samplingMode := .timer } (s.withInputs [.event (.atEdge false true 4)]) =
      .refused .wrongSamplingMode ∧
    stepFor { vectorCfg with ctrWidth := 2 } (s.withInputs [.event (.atEdge false true 4)]) = .next s := ⟨rfl, rfl⟩

/-- V3, D19: a break entry that is not the make entry with bit 7 set, and a make byte with bit 7 set, are refused on the
extended page too. -/
theorem test_inadmissible_tables :
    ¬ { vectorCfg with xlat := fun e k c => if e = true ∧ c = 0x75#8 then some [if k then 0x01#8 else 0x48#8]
          else defaultXlat e k c }.XlatAdmissible ∧
    ¬ { vectorCfg with xlat := fun e k c => if e = true ∧ c = 0x75#8 then some [0xC8#8]
          else defaultXlat e k c }.XlatAdmissible := by
  constructor <;> rintro ⟨_, _, _, _, _, _, h⟩
  · exact absurd (h true 0x75#8 [0x48#8] rfl).1 (by decide)
  · exact absurd ((h true 0x75#8 [0xC8#8] rfl).2 0xC8#8 (by decide)) (by decide)

/-! ### Witnesses: for every statement with hypotheses, states and operands that meet them together -/

/-- A sound state other than the reset state: frames and a command waiting, a byte on the XT bus at its last position
but one of 9 bits, the loop in its wait. -/
def busyState : State :=
  { State.reset with
    q := [⟨.atProto, 0x1C#8, false, true⟩], xtPending := [0x9E#8], cmdQ := [⟨.setLeds, 0xED#8, [0x02#8]⟩],
    xtBus := ⟨.sending 7, 0x1E#8, false, 5, some 2⟩, tr := ⟨true, false, 0x05#8⟩, asleep := true,
    err := ⟨1, 2, 3, 4, 5, 6, 0xFFFF⟩ }

theorem busyState_inv : busyState.Inv := by
  constructor <;> simp [busyState, State.reset, AtLink.reset, AtState.isReceiveTag, cfg]
  · cases Config.xtFrameBits <;> decide
  · intro k; cases k <;> decide

theorem test_hyps_RaiseCountsOneKindSaturating : ErrorKind.parity ≠ .framing := by decide

/-- A step that lowers no counter and moves one: an inbound wire string of one edge with data 1. -/
theorem test_hyps_CountersNeverDecreaseButByReset :
    let s : State := { State.reset with inputs := [.frame .atRx [true] ⟨0, 0, [(true, 0)]⟩] }
    s.inputs.head? ≠ some (.event .reset) ∧ s.err.get .framing < 2 ^ cfg.ctrWidth ∧
      step s = .next { State.reset with err := ⟨1, 0, 0, 0, 0, 0, 0⟩ } := ⟨by decide, by decide, rfl⟩

theorem test_hyps_OnEdgeSelectsTheOperation :
    (busAt .txHold none).atBus.st = .txHold ∧
    ((∀ d, (busAt .idle none).atBus.deadline = some d → 7 ≤ d) ∧ (busAt .idle none).atBus.st = .idle) ∧
    (∀ st, (∀ d, (busAt st (some 7)).atBus.deadline = some d → 7 ≤ d) ∧ (busAt st (some 7)).atBus.st = st) ∧
    ((busAt .parityCheck (some 7)).atBus.deadline = some 7 ∧ 7 < 8 ∧
      (busAt .parityCheck (some 7)).atBus.st.isFrameReceive = true ∧
      (busAt (.receiving 0) (some 7)).atBus.st.isFrameReceive = true ∧
      (busAt (.txSending 9) (some 7)).atBus.st.isFrameSend = true ∧
      (busAt .txAwaitAck (some 7)).atBus.st.isFrameSend = true) := by
  simp [busAt, State.reset, AtState.isFrameReceive, AtState.isFrameSend]

/-- A sound state; an edge at exactly the deadline in `Idle`, and at the first and last positions of a frame in either
direction. -/
theorem test_hyps_OnEdgeCompletesAndFrame : busyState.Inv ∧ State.reset.atBus.st = .idle ∧
    (∀ st, ∀ d, (busAt st (some 7)).atBus.deadline = some d → 7 ≤ d) ∧
    (AtState.receiving 0 ≠ .idle ∧ (AtState.receiving 0).bitpos = some 1) ∧
    (AtState.parityCheck ≠ .idle ∧ AtState.parityCheck.bitpos = some 10 ∧
      10 = (if AtState.parityCheck.isFrameReceive then 10 else 11)) ∧
    ((AtState.txSending 9).bitpos = some 10 ∧ 10 < (if (AtState.txSending 9).isFrameReceive then 10 else 11)) ∧
    (AtState.txAwaitAck.bitpos = some 11 ∧ 11 = (if AtState.txAwaitAck.isFrameReceive then 10 else 11)) :=
  ⟨busyState_inv, rfl, by simp [busAt, State.reset], by decide, by decide, by decide, by decide⟩

theorem test_hyps_TickSamplesThenPasses :
    (State.reset.atClkPrev = true ∧
      ∃ u, exec (.linkOnEdge false true 9) State.reset = .next u) ∧
    ({ State.reset with atClkPrev := false }.atClkPrev = false ∨ false = true) ∧
    (State.reset.atClkPrev = false ∨ true = true) := ⟨⟨rfl, _, rfl⟩, .inl rfl, .inr rfl⟩

theorem test_hyps_TickCompletes : busyState.Inv := busyState_inv

theorem test_hyps_RxStartTakesStartBit : (busAt .idle none).atBus.st = .idle ∧
    (busAt (.receiving 0) (some 7)).atBus.st ≠ .idle := by decide

theorem test_hyps_RxDataWritesOneBit :
    (∀ i : Fin 8, (busAt (.receiving i.castSucc) (some 7)).atBus.st = .receiving i.castSucc ∧
      ∀ d, (busAt (.receiving i.castSucc) (some 7)).atBus.deadline = some d → 7 ≤ d) ∧
    (busAt (.receiving 8) (some 7)).atBus.st ≠ .receiving (Fin.castSucc (7 : Fin 8)) := by
  simp [busAt, State.reset]

theorem test_hyps_RxParityStoresBit :
    ((busAt (.receiving 8) (some 7)).atBus.st = .receiving 8 ∧
      ∀ d, (busAt (.receiving 8) (some 7)).atBus.deadline = some d → 7 ≤ d) ∧
    (busAt (.receiving 7) (some 7)).atBus.st ≠ .receiving 8 := by simp [busAt, State.reset]

/-- Equal parity bits; different ones with 15 and with 16 Frames queued. -/
theorem test_hyps_RxStopDecidesTheFrame :
    let a : AtLink := ⟨.parityCheck, 0x1C#8, true, true, some 7, 0, 0⟩
    let b : AtLink := ⟨.parityCheck, 0x1C#8, true, false, some 7, 0, 0⟩
    (a.st = .parityCheck ∧ (∀ d, a.deadline = some d → 7 ≤ d) ∧ a.parAcc = a.parBit) ∧
    (b.st = .parityCheck ∧ (∀ d, b.deadline = some d → 7 ≤ d) ∧ b.parAcc ≠ b.parBit) ∧
    ({ withFrames 15 with atBus := b }.atBus = b ∧ { withFrames 15 with atBus := b }.q.length < 16) ∧
    ({ withFrames 16 with atBus := b }.atBus = b ∧ 16 ≤ { withFrames 16 with atBus := b }.q.length) := by
  simp [withFrames, State.reset]

theorem test_hyps_RxTimeoutAbandonsFrame :
    ((busAt .parityCheck (some 7)).atBus.st.isFrameReceive = true ∧
      (busAt .parityCheck (some 7)).atBus.deadline = some 7 ∧ 7 < 8) ∧
    (busAt .txAwaitAck (some 7)).atBus.st.isFrameReceive = false ∧
    (∀ d, (busAt .parityCheck (some 7)).atBus.deadline = some d → 7 ≤ d) := by
  simp [busAt, State.reset, AtState.isFrameReceive]

theorem withFrames_inv : (withFrames 15).Inv := by
  constructor <;> simp [withFrames, State.reset, AtLink.reset, XtLink.reset, AtState.isReceiveTag, cfg]
  intro k; cases k <;> decide

/-- A frame into the last free place of the queue, its edges all at time 3. -/
theorem test_hyps_FrameCaptureEndToEnd :
    (withFrames 15).Inv ∧ (withFrames 15).atBus.st = .idle ∧ (withFrames 15).q.length < 16 ∧
    (List.replicate 11 3).length = 11 ∧
    List.IsChain (fun a b => b ≤ a + cfg.atBitTimeout) (List.replicate 11 3) :=
  ⟨withFrames_inv, rfl, by decide, rfl, by simp [List.replicate]⟩

/-- The frame of 0x1C with a bad stop bit, and with a bad parity bit. -/
theorem test_hyps_IllegalFrameIsCountedOnce :
    let sch : Schedule := ⟨0, 0, List.replicate 11 (true, 3)⟩
    let a : State := { withFrames 15 with inputs := [.frame .atRx (false :: dataBits 0x1C#8 ++ [false, false]) sch] }
    let b : State := { withFrames 15 with inputs := [.frame .atRx (false :: dataBits 0x1C#8 ++ [true, true]) sch] }
    a.Inv ∧ b.Inv ∧ a.atBus.st = .idle ∧ b.atBus.st = .idle ∧ a.pass = none ∧ b.pass = none ∧ sch.edges.length = 11 ∧
    List.IsChain (fun a b => b ≤ a + cfg.atBitTimeout) (sch.edges.map Prod.snd) ∧ true ≠ oddParity 0x1C#8 :=
  ⟨inv_withInputs withFrames_inv _, inv_withInputs withFrames_inv _, rfl, rfl, rfl, rfl, rfl, by simp [List.replicate],
    by decide⟩

theorem test_hyps_TxRequestPullsClockLow :
    ((withCommands 1).cmdQ = ⟨.reset, 0xFF#8, []⟩ :: [] ∧ (withCommands 1).atBus.st = .idle ∧
      (withCommands 1).txResult = .none ∧ ¬ (true = false ∧ (withCommands 1).pins.atClkLow = false)) ∧
    State.reset.cmdQ = [] ∧ (busAt .txHold none).atBus.st ≠ .idle ∧
    { State.reset with txResult := TxResult.failed }.txResult ≠ .none ∧
    (false = false ∧ (withCommands 1).pins.atClkLow = false) := by decide

theorem test_hyps_TxReleasePutsOutStartBit :
    (busAt .txHold none).atBus.st = .txHold ∧ (busAt .txHold none).atBus.holdUntil ≤ 0 ∧
    (busAt .idle none).atBus.st ≠ .txHold ∧
    0 < { State.reset with atBus := ⟨.txHold, 0, false, false, none, 0, 1⟩ }.atBus.holdUntil := by decide

theorem test_hyps_TxBitPutsOutTheFrameBit :
    ∀ i : Fin 10, (∀ d, (busAt (.txSending i) (some 7)).atBus.deadline = some d → 7 ≤ d) ∧
      (busAt (.txSending i) (some 7)).atBus.st = .txSending i := by simp [busAt, State.reset]

theorem test_hyps_TxAckReportsDelivery :
    (busAt .txAwaitAck (some 7)).atBus.st = .txAwaitAck ∧
    (∀ d, (busAt .txAwaitAck (some 7)).atBus.deadline = some d → 7 ≤ d) ∧
    (busAt (.txSending 9) (some 7)).atBus.st ≠ .txAwaitAck := by simp [busAt, State.reset]

theorem test_hyps_TxTimeoutAbortsTheSend :
    ((busAt .txAwaitAck (some 7)).atBus.st.isFrameSend = true ∧
      (busAt .txAwaitAck (some 7)).atBus.deadline = some 7 ∧ 7 < 8) ∧
    (busAt .parityCheck (some 7)).atBus.st.isFrameSend = false ∧
    (∀ d, (busAt .txAwaitAck (some 7)).atBus.deadline = some d → 7 ≤ d) := by
  simp [busAt, State.reset, AtState.isFrameSend]

/-- A command waiting on an idle bus, released at exactly the hold time, its edges all at that time. -/
theorem test_hyps_OutboundFrameEndToEnd :
    let tRel := 4 + cfg.atReqHold
    busyState.Inv ∧ busyState.atBus.st = .idle ∧ busyState.txResult = .none ∧
    busyState.cmdQ = ⟨.setLeds, 0xED#8, [0x02#8]⟩ :: [] ∧ 4 + cfg.atReqHold ≤ tRel ∧
    (List.replicate 11 (true, tRel)).length = 11 ∧
    List.IsChain (fun a b => b ≤ a + cfg.atAckTimeout) (tRel :: (List.replicate 11 (true, tRel)).map Prod.snd) :=
  ⟨busyState_inv, rfl, rfl, rfl, Nat.le_refl _, rfl, by simp [List.replicate]⟩

theorem test_hyps_XtLoadBeginsTheByte : (busAt .idle none).xtBus.st = .idle ∧ busyState.xtBus.st ≠ .idle := by decide

/-- A stall that begins, one at exactly the maximum wait and one after it; a pass too early, at the very time, and the
last position. -/
theorem test_hyps_XtStepSendsOrStalls :
    (busAt .idle none).xtBus.st = .idle ∧
    (∀ nb is, (sendingAt 0 0x1E#8 nb is).xtBus.st = .sending 0) ∧ (sendingAt 0 0x1E#8 5 none).xtBus.inhibitSince = none ∧
    ((sendingAt 0 0x1E#8 5 (some 3)).xtBus.inhibitSince = some 3 ∧ 3 + cfg.xtInhibitMaxWait - 3 ≤ cfg.xtInhibitMaxWait ∧
      cfg.xtInhibitMaxWait < 4 + cfg.xtInhibitMaxWait - 3) ∧
    (4 < (sendingAt 0 0x1E#8 5 none).xtBus.nextBitAt ∧ (sendingAt 0 0x1E#8 5 none).xtBus.nextBitAt ≤ 5) ∧
    0 + 1 ≠ xtFrameLen cfg.xtFrameBits ∧ (xtFrameLen cfg.xtFrameBits - 1) + 1 = xtFrameLen cfg.xtFrameBits ∧
    (sendingAt (xtFrameLen cfg.xtFrameBits - 1) 0x1E#8 5 none).xtBus.st =
      .sending (xtFrameLen cfg.xtFrameBits - 1) := by
  have h := xtFrameLen_pos cfg.xtFrameBits
  refine ⟨rfl, fun _ _ => rfl, rfl, ⟨rfl, by omega, by omega⟩, ⟨by decide, by decide⟩, ?_, by omega, rfl⟩
  cases cfg.xtFrameBits <;> decide

/-- Passes exactly a bit period apart, the first at exactly `next_bit_at`. -/
theorem test_hyps_XtFrameEndToEnd : ∀ n, n = 9 ∨ n = 10 →
    let s : State := { State.reset with xtBus := ⟨.idle, 0, false, 6, none⟩ }
    let times := (List.range n).map fun k => 6 + k * cfg.xtBitPeriod
    s.xtBus.st = .idle ∧ times.length = n ∧ times.head? = some 6 ∧
    times.getLast? = some (6 + (n - 1) * cfg.xtBitPeriod) ∧ s.xtBus.nextBitAt ≤ 6 ∧
    List.IsChain (fun a b => a + cfg.xtBitPeriod ≤ b) times := by
  rintro n (rfl | rfl) <;> refine ⟨rfl, by simp, by simp [List.range, List.range.loop], by simp [List.range, List.range.loop],
    by decide, ?_⟩ <;> simp [List.range, List.range.loop] <;> omega

/-- Two inhibited passes after the first, one of them at exactly the maximum wait. -/
theorem test_hyps_SuspensionIsIdempotent :
    (sendingAt 3 0x1E#8 5 none).xtBus.st = .sending 3 ∧ (sendingAt 3 0x1E#8 5 none).xtBus.inhibitSince = none ∧
    ∀ t ∈ [4, 4 + cfg.xtInhibitMaxWait], t - 4 ≤ cfg.xtInhibitMaxWait := by
  refine ⟨rfl, rfl, ?_⟩
  simp
  omega

theorem test_hyps_XlDataReturnsTheEntry : (0x1C#8 ≠ 0xE0#8 ∧ 0x1C#8 ≠ 0xF0#8) ∧
    cfg.xlat State.reset.tr.ext State.reset.tr.brk 0x1C#8 = some [0x1E#8] ∧
    cfg.xlat State.reset.tr.ext State.reset.tr.brk 0x1C#8 ≠ some [0x9E#8] := by decide

theorem test_hyps_XlUnknownCountsAndClears : (0x02#8 ≠ 0xE0#8 ∧ 0x02#8 ≠ 0xF0#8 ∧ 0x1C#8 ≠ 0xE0#8 ∧ 0x1C#8 ≠ 0xF0#8) ∧
    cfg.xlat State.reset.tr.ext State.reset.tr.brk 0x02#8 = none ∧
    cfg.xlat State.reset.tr.ext State.reset.tr.brk 0x1C#8 = some [0x1E#8] := by decide

theorem test_hyps_KeyEntriesReturnMakeOrBreak : keyRow .xlatPlainA = some ⟨false, 0x1C#8, 0x1E#8⟩ ∧
    State.reset.tr.ext = false ∧ keyRow .xlatExtUp = some ⟨true, 0x75#8, 0x48#8⟩ ∧ State.reset.tr.ext ≠ true := by decide

theorem test_hyps_TableHoldsExactlyTheEntries : keyRow .xlatExtUp = some ⟨true, 0x75#8, 0x48#8⟩ ∧
    cfg.xlat true true 0x75#8 = some [0xC8#8] := by decide

theorem test_hyps_DefaultTableIsAdmissible : cfg.xlat false false 0x1C#8 = some [0x1E#8] ∧
    (cfg.xlat true false 0x75#8 = some [0x48#8] ∧ 0x48#8 ∈ [0x48#8]) ∧ cfg.xlat true true 0x75#8 = some [0xC8#8] := by decide

/-- An extended break with its prefixes in the other order and one repeated; a plain break with 0xF0 repeated; a plain
make with no prefix at all. -/
theorem test_hyps_BreakSequencesReturnBit7 :
    State.reset.tr.ext = false ∧ State.reset.tr.brk = false ∧
    (keyRow .xlatExtUp = some ⟨true, 0x75#8, 0x48#8⟩ ∧ Instr.prefixE0 ∈ [Instr.prefixF0, .prefixE0, .prefixE0] ∧
      Instr.prefixF0 ∈ [Instr.prefixF0, .prefixE0, .prefixE0] ∧
      ∀ j ∈ [Instr.prefixF0, .prefixE0, .prefixE0], j = .prefixE0 ∨ j = .prefixF0) ∧
    (keyRow .xlatPlainA = some ⟨false, 0x1C#8, 0x1E#8⟩ ∧ Instr.prefixE0 ∉ [Instr.prefixF0, .prefixF0] ∧
      Instr.prefixF0 ∈ [Instr.prefixF0, .prefixF0] ∧
      ∀ j ∈ [Instr.prefixF0, .prefixF0], j = .prefixE0 ∨ j = .prefixF0) ∧
    (Instr.prefixE0 ∉ ([] : List Instr) ∧ Instr.prefixF0 ∉ ([] : List Instr)) := by decide

/-- For `BR.SET_INDICATORS`, `BR.RESET` and the two command bytes: three commands queued, and four. -/
theorem test_hyps_SetIndicatorsQueuesSetLeds : (withCommands 3).cmdQ.length < 4 ∧ 4 ≤ (withCommands 4).cmdQ.length := by
  decide
theorem test_hyps_BrResetQueuesReset : (withCommands 3).cmdQ.length < 4 ∧ 4 ≤ (withCommands 4).cmdQ.length := by decide
theorem test_hyps_CommandBytesQueueTheirCommand :
    (withCommands 3).cmdQ.length < 4 ∧ 4 ≤ (withCommands 4).cmdQ.length ∧ Instr.cmdReset ∈ [Instr.cmdSetLeds, .cmdReset] := by
  decide

/-- No report; a delivery inside a command, of a set-LEDs command's last byte, of a reset; the second and the third
failure. -/
theorem test_hyps_ServiceConsumesReportThenAdvances :
    let deliveredOf (k : Command) : State := { State.reset with txResult := .delivered, cmdQ := [k] }
    let failedAfter (n : Nat) : State := { State.reset with txResult := .failed, cmdAttempts := n }
    State.reset.txResult = .none ∧
    (∀ k, (deliveredOf k).txResult = .delivered ∧ (deliveredOf k).cmdQ = k :: []) ∧
    (Command.mk .setLeds 0xED#8 [0x02#8]).rest = 0x02#8 :: [] ∧
    ((Command.mk .setLeds 0x02#8 []).rest = [] ∧ (Command.mk .setLeds 0x02#8 []).kind = .setLeds) ∧
    ((Command.mk .reset 0xFF#8 []).rest = [] ∧ (Command.mk .reset 0xFF#8 []).kind = .reset) ∧
    ((failedAfter 1).txResult = .failed ∧ (failedAfter 1).cmdAttempts + 1 < 3) ∧
    ((failedAfter 2).txResult = .failed ∧ 3 ≤ (failedAfter 2).cmdAttempts + 1) :=
  ⟨rfl, fun _ => ⟨rfl, rfl⟩, rfl, ⟨rfl, rfl⟩, ⟨rfl, rfl⟩, ⟨rfl, by decide⟩, ⟨rfl, by decide⟩⟩

theorem test_hyps_ServiceCompletesAndFrame : busyState.Inv := busyState_inv

theorem test_hyps_ReportWithoutCommandStops :
    { State.reset with txResult := TxResult.delivered }.txResult = .delivered ∧
    { State.reset with txResult := TxResult.delivered }.cmdQ = [] := by decide

theorem test_hyps_PushAppendsOrDropsNewest : (withFrames 15).q.length < 16 ∧ 16 ≤ (withFrames 16).q.length := by decide

theorem test_hyps_PopRemovesOldest : (withFrames 1).q = ⟨.atProto, 0x1C#8, false, true⟩ :: [] ∧ State.reset.q = [] := by
  decide

/-- A sleeping loop; and sound states, awake, that meet the condition of each step of a pass: a deadline at its last
time and expired, a Frame to pop, a byte to load, a byte being sent. -/
theorem test_hyps_PassCompletesAndSleepsWhenQuiescent :
    busyState.asleep = true ∧
    ((busAt (.receiving 0) (some 7)).Inv ∧ (busAt (.receiving 0) (some 7)).asleep = false ∧
      (busAt (.receiving 0) (some 7)).atBus.deadline = some 7 ∧ 7 ≤ 7 ∧ 7 < 8) ∧
    ((withFrames 15).Inv ∧ (withFrames 15).asleep = false ∧ (withFrames 15).xtBus.st = .idle ∧
      (withFrames 15).xtPending = [] ∧ (withFrames 15).q ≠ []) ∧
    ({ State.reset with xtPending := [0x9E#8] }.Inv ∧ { State.reset with xtPending := [0x9E#8] }.xtBus.st = .idle) ∧
    ((sendingAt 0 0x1E#8 5 none).Inv ∧ (sendingAt 0 0x1E#8 5 none).xtBus.st ≠ .idle) := by
  have h := xtFrameLen_pos cfg.xtFrameBits
  refine ⟨rfl, ⟨?_, rfl, rfl, by decide, by decide⟩, ⟨withFrames_inv, rfl, rfl, rfl, by decide⟩, ⟨?_, rfl⟩, ?_, by decide⟩
  all_goals constructor
  all_goals simp [busAt, sendingAt, State.reset, AtLink.reset, XtLink.reset, AtState.isReceiveTag,
    AtState.isFrameReceive, cfg]
  all_goals first | exact h | (intro k; cases k <;> decide)

theorem test_hyps_PassRunsAsItsOperations : (withFrames 15).asleep = false ∧ (withFrames 15).pass = none ∧
    (withFrames 15).ret = .nothing ∧ (withFrames 15).inputs = [] := ⟨rfl, rfl, rfl, rfl⟩

/-- Each row of the table of R13, as the next input of the reset state. -/
theorem test_hyps_StepRunsTheSelectedOperation : State.reset.pass = none ∧
    ∀ e ∈ [Event.atEdge false false 3, .xtEdge true 3, .tick true true true 3, .pass true true true 3,
        .hostReq (.setIndicators 0x02#8), .hostReq .reset, .reset],
      { State.reset with inputs := [.event e] }.inputs = .event e :: [] := by decide

theorem test_hyps_HandlersLandBetweenOperations :
    let s : State := { State.reset with inputs := [.event (.hostReq .reset)], pass := some ⟨.load, true, true, true, 3⟩ }
    s.inputs = .event (.hostReq .reset) :: [] ∧ s.pass = some ⟨.load, true, true, true, 3⟩ ∧
    beginsPass (.hostReq .reset) = false ∧ Event.hostReq .reset ≠ .reset ∧
    admittedIn cfg.samplingMode (.hostReq .reset) = true := ⟨rfl, rfl, rfl, by decide, rfl⟩

theorem test_hyps_StepRunsTheDecodedPayload :
    let f : Frame := ⟨.atProto, 0x1C#8, false, true⟩
    let p : PassPosition := ⟨.translate, true, true, true, 3⟩
    let s : State := { State.reset with inputs := [.mainLoop], pass := some p, ret := .frame f }
    s.pass = some p ∧ p.stage = .translate ∧ s.ret = .frame f ∧ s.inputs = .mainLoop :: [] ∧
    decodePayload cfg s.tr.ext f.payload = .ok .xlatPlainA ∧
    exec .xlatPlainA { s with inputs := [] } = .next { s with inputs := [], ret := .bytes [0x1E#8] } :=
  ⟨rfl, rfl, rfl, rfl, rfl, rfl⟩

theorem test_hyps_StepRunsTheDecodedWord :
    let s : State := { State.reset with inputs := [.commandByte 0xED#8] }
    let t : State := { State.reset with inputs := [.frame .xt (xtWire9 0x1E#8) ⟨0, 0, []⟩] }
    (s.inputs = .commandByte 0xED#8 :: [] ∧ decodeCommand cfg 0xED#8 = .ok .cmdSetLeds) ∧
    (t.inputs = .frame .xt (xtWire9 0x1E#8) ⟨0, 0, []⟩ :: [] ∧ t.pass = none ∧
      decodeFrame .xt (xtWire9 0x1E#8) ⟨0, 0, []⟩ = .ok (.xtFrame9 0x1E#8 [])) := by decide

theorem test_hyps_DecodeOfEncode : encode cfg (.atTxFrame 0xED#8 1 2 [(true, 3)]) = some (.frame .atTx (atWire 0xED#8)) ∧
    encode cfg .xlatExtUp = some (.payload true 0x75#8) := by decide

theorem test_hyps_EncodeOfDecode : decode cfg (.payload true 0xF0#8) ⟨0, 0, []⟩ = .ok .prefixF0 ∧
    decode cfg (.payload true 0x75#8) ⟨0, 0, []⟩ = .ok .xlatExtUp := by decide

/-- A step of a sound state that changes it: the command byte 0xED is queued. -/
theorem test_hyps_StepKeepsInvariant :
    (busyState.withInputs [.commandByte 0xED#8]).Inv ∧
    step (busyState.withInputs [.commandByte 0xED#8]) = .next
      { busyState with asleep := false, cmdQ := busyState.cmdQ ++ [⟨.setLeds, 0xED#8, [0x05#8]⟩] } :=
  ⟨inv_withInputs busyState_inv _, rfl⟩

/-- A sound state with inputs the core is built for, whatever the sampling mode. -/
theorem test_hyps_CoreNeverStops :
    let s := busyState.withInputs [.commandByte 0xED#8, .mainLoop, .event (.hostReq .reset), .frame .atRx [true] ⟨0, 0, []⟩]
    s.Inv ∧ s.inputsAdmissible := by
  refine ⟨inv_withInputs busyState_inv _, ?_⟩
  intro inp h
  simp only [State.withInputs_inputs, List.mem_cons, List.not_mem_nil, or_false] at h
  rcases h with rfl | rfl | rfl | rfl <;> rfl

end Sys2Proof.Tests
end

section
/-! The state after reset (the table of R50). -/

namespace Sys2Proof.Machine

/-- Each kind of R240 reads its own counter of R34, so the seven zeros of the reset record are met one by one. -/
@[simp] theorem State.reset_err_get (k : ErrorKind) : State.reset.err.get k = 0 := by
  cases k <;> rfl

/-- Settles O1: the counters by kind, every other row of R50 by computing the field of the reset state. -/
theorem resetHoldsSpecValues : Obligations.ResetHoldsSpecValues :=
  ⟨rfl, rfl, rfl, rfl, rfl, rfl, rfl, rfl, rfl, State.reset_err_get, rfl, rfl, rfl, rfl⟩

end Sys2Proof.Machine
end

section
/-! The encodings of 30_encoding.md: the wire strings of the XT frames (R83, R84) and the constraints of R91 on the
default Translation Table. -/

namespace Sys2Proof.Machine

/-! ### The XT frames -/

theorem dataBits_eq_map_range (v : Byte) : dataBits v = (List.range 8).map v.getLsbD := rfl

/-- Settles O28: both frames are their wire strings, whose data bits are the byte's bits from bit 0 up. -/
theorem xtFrameBitsSpellTheWireString : Obligations.XtFrameBitsSpellTheWireString := by
  intro v
  rw [← xtWire9_eq, ← xtWire10_eq, xtWire9, xtWire10, dataBits_eq_map_range]
  exact ⟨rfl, rfl⟩

/-! ### The default Translation Table -/

/-- What a page answers for a code is one of its rows. -/
theorem mem_of_lookupMake {page : List (Byte × Byte)} {b m : Byte} (h : lookupMake page b = some m) :
    (b, m) ∈ page := by
  induction page with
  | nil => cases h
  | cons row rest ih =>
    rw [lookupMake] at h
    split at h
    next hcode =>
      cases hcode
      cases h
      exact List.mem_cons_self
    next => exact List.mem_cons_of_mem _ (ih h)

/-- No row of either page has a make byte with bit 7 set (R92, R93). -/
theorem lookupMake_bit7_clear {ext : Bit} {b m : Byte}
    (h : lookupMake (if ext then extendedPage else plainPage) b = some m) : m.getLsbD 7 = false := by
  have hpage : (if ext then extendedPage else plainPage).all (fun row => !row.2.getLsbD 7) = true := by
    cases ext <;> decide
  have hrow := List.all_eq_true.mp hpage (b, m) (mem_of_lookupMake h)
  rwa [Bool.not_eq_true'] at hrow

/-- Neither page has a row for a prefix byte (R86). -/
theorem lookupMake_prefixByte {b : Byte} (hb : b = 0xE0#8 ∨ b = 0xF0#8) (ext : Bit) :
    lookupMake (if ext then extendedPage else plainPage) b = none := by
  obtain rfl | rfl := hb <;> cases ext <;> decide

/-- Everything the default table can answer: the page has a make byte for the code, and the answer is that byte or its
break byte. -/
theorem defaultXlat_eq_some_iff {ext brk : Bit} {b : Byte} {xs : List Byte} :
    defaultXlat ext brk b = some xs ↔
      ∃ m, lookupMake (if ext then extendedPage else plainPage) b = some m ∧
        xs = [if brk then breakOf m else m] := by
  cases h : lookupMake (if ext then extendedPage else plainPage) b with
  | none => simp [defaultXlat_none h]
  | some m => simp [defaultXlat_some h, eq_comm]

/-- Whether the table has an entry depends on the page and the code only. -/
theorem defaultXlat_isSome (ext brk : Bit) (b : Byte) :
    (defaultXlat ext brk b).isSome = (lookupMake (if ext then extendedPage else plainPage) b).isSome := by
  cases h : lookupMake (if ext then extendedPage else plainPage) b with
  | none => rw [defaultXlat_none h]; rfl
  | some m => rw [defaultXlat_some h]; rfl

/-- A make entry is one byte with bit 7 clear, and the break entry is that byte with bit 7 set (R91 (b), (d), D19). -/
theorem defaultXlat_make {ext : Bit} {b : Byte} {xs : List Byte} (h : defaultXlat ext false b = some xs) :
    ∃ m, xs = [m] ∧ m.getLsbD 7 = false ∧ defaultXlat ext true b = some [m ||| 0x80#8] := by
  obtain ⟨m, hm, rfl⟩ := defaultXlat_eq_some_iff.mp h
  exact ⟨m, rfl, lookupMake_bit7_clear hm, defaultXlat_some hm⟩

/-- Settles O37: R91 (a) and (c) name single codes, which the table answers by computation; (b) and (d) are
`defaultXlat_make` on one page and on both. -/
theorem defaultTableIsAdmissible : Obligations.DefaultTableIsAdmissible := by
  refine ⟨rfl, rfl, fun c xs h => ?plainBreak, ⟨0x48#8, [], rfl⟩, fun e c => ?sameKeys, fun e c xs h => ?breakOfMake,
    fun e k => ?prefixes, fun e k c xs h => ?lengths⟩
  case plainBreak =>
    obtain ⟨m, hxs, _, hbreak⟩ := defaultXlat_make h
    exact ⟨m, hxs, hbreak⟩
  case sameKeys => exact (defaultXlat_isSome e true c).trans (defaultXlat_isSome e false c).symm
  case breakOfMake =>
    obtain ⟨m, rfl, hbit7, hbreak⟩ := defaultXlat_make h
    exact ⟨hbreak, List.forall_mem_singleton.mpr hbit7⟩
  case prefixes =>
    exact ⟨defaultXlat_none (lookupMake_prefixByte (.inl rfl) e), defaultXlat_none (lookupMake_prefixByte (.inr rfl) e)⟩
  case lengths =>
    have hone := defaultXlat_length e k c xs h
    exact ⟨hone.ge, hone.le⟩

end Sys2Proof.Machine
end

section
/-! The bit-level link of 40_bit_level_link.md (R110 to R114): what an AT edge selects, the bit driver, the inhibit
test, the wake-up edge and the sampler. -/

namespace Sys2Proof.Machine

/-! ### The lateness test -/

/-- An edge at exactly the deadline is still in time (R11, R25). -/
theorem expired_eq_false_iff {deadline : Option Nat} {ts : Nat} :
    expired deadline ts = false ↔ ∀ d, deadline = some d → ts ≤ d := by
  cases deadline with
  | none => simp [expired_none]
  | some d => simp [expired_some]

/-! ### The operation of each tag, for a falling edge in time -/

section
variable {c : Cfg} {data : Bit} {ts : Nat} {s : State}

theorem edgeByTag_idle (h : s.atBus.st = .idle) : edgeByTag c data ts s = rxStart c data ts s := by
  simp [edgeByTag, h]

theorem edgeByTag_receiving_data {i : Fin 8} (h : s.atBus.st = .receiving i.castSucc) :
    edgeByTag c data ts s = rxData c i data ts s := by
  simp [edgeByTag, h]

theorem edgeByTag_receiving_parity (h : s.atBus.st = .receiving 8) :
    edgeByTag c data ts s = rxParity c data ts s := by
  simp [edgeByTag, h]

theorem edgeByTag_parityCheck (h : s.atBus.st = .parityCheck) : edgeByTag c data ts s = rxStop c data ts s := by
  simp [edgeByTag, h]

theorem edgeByTag_txHold (h : s.atBus.st = .txHold) : edgeByTag c data ts s = s := by
  simp [edgeByTag, h, txHoldEdge]

theorem edgeByTag_txSending {i : Fin 10} (h : s.atBus.st = .txSending i) :
    edgeByTag c data ts s = txBit c i ts s := by
  simp [edgeByTag, h]

theorem edgeByTag_txAwaitAck (h : s.atBus.st = .txAwaitAck) : edgeByTag c data ts s = txAck data ts s := by
  simp [edgeByTag, h]

/-! ### `LINK.ON_EDGE` -/

theorem onEdge_rising : onEdge c true data ts s = s.withAsleep false := rfl

/-- In `TxHold` the edge is the core's own, whatever the deadline (R110, R153). -/
theorem onEdge_txHold (h : s.atBus.st = .txHold) : onEdge c false data ts s = s.withAsleep false := by
  simp [onEdge, h, txHoldEdge]

theorem onEdge_inTime (h : expired s.atBus.deadline ts = false) :
    onEdge c false data ts s = edgeByTag c data ts (s.withAsleep false) := by
  by_cases hst : s.atBus.st = .txHold
  · rw [onEdge_txHold hst, edgeByTag_txHold (by simpa using hst)]
  · simp [onEdge, hst, h]

theorem onEdge_late (hst : s.atBus.st ≠ .txHold) (h : expired s.atBus.deadline ts = true) :
    onEdge c false data ts s = lateEdge c data ts (s.withAsleep false) := by
  simp [onEdge, hst, h]

/-- A late edge while receiving counts a timeout, resets the link, and is examined again in `Idle` (R110, D3). -/
theorem onEdge_late_receiving (hc : c.lateEdgeRestarts = true) (hst : s.atBus.st.isFrameReceive = true)
    (h : expired s.atBus.deadline ts = true) :
    onEdge c false data ts s = rxStart c data ts (linkResetAt (raise c .timeout (s.withAsleep false))) := by
  have hhold : s.atBus.st ≠ .txHold := by
    intro hold
    simp [hold, AtState.isFrameReceive] at hst
  have habandon : rxTimeout c ts (s.withAsleep false) = linkResetAt (raise c .timeout (s.withAsleep false)) := by
    simp [rxTimeout, hst, h]
  calc onEdge c false data ts s
      = edgeByTag c data ts (rxTimeout c ts (s.withAsleep false)) := by simp [onEdge_late hhold h, lateEdge, hst, hc]
    _ = rxStart c data ts (linkResetAt (raise c .timeout (s.withAsleep false))) := by
      rw [habandon, edgeByTag_idle rfl]

/-- A late edge while sending is dropped with the frame (R110, R156). -/
theorem onEdge_late_sending (hst : s.atBus.st.isFrameSend = true) (h : expired s.atBus.deadline ts = true) :
    onEdge c false data ts s = txTimeout c ts (s.withAsleep false) := by
  have htag : s.atBus.st ≠ .txHold ∧ s.atBus.st.isFrameReceive = false := by
    cases hs : s.atBus.st <;> simp_all [AtState.isFrameSend, AtState.isFrameReceive]
  obtain ⟨hhold, hreceive⟩ := htag
  simp [onEdge_late hhold h, lateEdge, hreceive]

/-! ### `LINK.TICK_SAMPLE` -/

/-- The wake-up of the sampler is the one of the handler it calls. -/
theorem onEdge_withAsleep (level : Bit) (b : Bit) :
    onEdge c level data ts (s.withAsleep b) = onEdge c level data ts s := rfl

theorem sampleEdge_falling (h : s.atClkPrev = true) :
    sampleEdge c false data ts s = (onEdge c false data ts s).withAtClkPrev false := by
  simp [sampleEdge, h, onEdge_withAsleep]

theorem sampleEdge_not_falling {atClk : Bit} (h : s.atClkPrev = false ∨ atClk = true) :
    sampleEdge c atClk data ts s = (s.withAsleep false).withAtClkPrev atClk := by
  obtain hprev | rfl := h
  · simp [sampleEdge, hprev]
  · simp [sampleEdge]

end

/-! ### The instructions of the link -/

theorem exec_linkOnEdge (level data : Bit) (ts : Nat) (s : State) :
    exec (.linkOnEdge level data ts) s = .next (onEdge cfg level data ts s) := rfl

theorem exec_linkSendBit (bus : Bus) (value : Bit) (s : State) :
    exec (.linkSendBit bus value) s = .next (sendBit bus value s) := rfl

theorem exec_linkIsInhibited (bus : Bus) (clkIn : Bit) (s : State) :
    exec (.linkIsInhibited bus clkIn) s = .next (s.withRet (.bit (isInhibited bus clkIn s))) := rfl

theorem exec_linkXtEdge (level : Bit) (ts : Nat) (s : State) :
    exec (.linkXtEdge level ts) s = .next (s.withAsleep false) := rfl

/-- A tick samples and then runs the pass, in `Timer` mode only (R113). -/
theorem exec_linkTickSample (atClk atData xtClk : Bit) (ts : Nat) (s : State) :
    exec (.linkTickSample atClk atData xtClk ts) s =
      if cfg.samplingMode = .timer then
        exec (.dispatchPass atClk atData xtClk ts) (sampleEdge cfg atClk atData ts s)
      else .next s := by
  change serviced (tickSample cfg atClk atData xtClk ts s) = _
  unfold tickSample
  split <;> rfl

/-- A falling edge in time is the one operation of the tag, after the wake-up (R110). -/
theorem exec_linkOnEdge_inTime {data : Bit} {ts : Nat} {s : State}
    (h : ∀ d, s.atBus.deadline = some d → ts ≤ d) :
    exec (.linkOnEdge false data ts) s = .next (edgeByTag cfg data ts (s.withAsleep false)) := by
  rw [exec_linkOnEdge, onEdge_inTime (expired_eq_false_iff.mpr h)]

theorem isInhibited_xtBus_iff {clkIn : Bit} {s : State} : isInhibited .xtBus clkIn s = true ↔ clkIn = false := by
  simp [isInhibited]

/-- The core does not take its own hold of the AT clock for the keyboard's (R112). -/
theorem isInhibited_atBus_iff {clkIn : Bit} {s : State} :
    isInhibited .atBus clkIn s = true ↔ clkIn = false ∧ s.pins.atClkLow = false := by
  simp [isInhibited]

/-! ### The obligations -/

/-- Settles O5: a rising edge and `TxHold` end the wait and no more; in time the tag selects the operation; after the
deadline the direction of the frame decides. -/
theorem onEdgeSelectsTheOperation : Obligations.OnEdgeSelectsTheOperation := by
  intro data ts s
  refine ⟨?rising, fun hst => ?ownEdge, fun hintime => ?inTime, fun d hd hlt => ?late⟩
  case rising => rw [exec_linkOnEdge, onEdge_rising]; rfl
  case ownEdge => rw [exec_linkOnEdge, onEdge_txHold hst]; rfl
  case inTime =>
    rw [exec_linkOnEdge_inTime hintime]
    refine ⟨fun hst => ?_, fun i hst => ?_, fun hst => ?_, fun hst => ?_, fun i hst => ?_, fun hst => ?_⟩
    · rw [edgeByTag_idle (s := s.withAsleep false) hst]; rfl
    · rw [edgeByTag_receiving_data (s := s.withAsleep false) hst]; rfl
    · rw [edgeByTag_receiving_parity (s := s.withAsleep false) hst]; rfl
    · rw [edgeByTag_parityCheck (s := s.withAsleep false) hst]; rfl
    · rw [edgeByTag_txSending (s := s.withAsleep false) hst]; rfl
    · rw [edgeByTag_txAwaitAck (s := s.withAsleep false) hst]; rfl
  case late =>
    have hexpired : expired s.atBus.deadline ts = true := by simpa [hd, expired_some] using hlt
    refine ⟨fun hreceive => ?receiving, fun hsend => ?sending⟩
    case receiving => rw [exec_linkOnEdge, onEdge_late_receiving rfl hreceive hexpired]; rfl
    case sending => rw [exec_linkOnEdge, onEdge_late_sending hsend hexpired]; rfl

/-- Settles O10: the tick is its sample and then the pass; what is left is what the sample makes of the two levels. -/
theorem tickSamplesThenPasses : Obligations.TickSamplesThenPasses := by
  intro atClk atData xtClk ts s
  rw [exec_linkTickSample]
  refine ⟨fun u hprev hclk hedge => ?falling, fun hlevels => ?notFalling⟩
  case falling =>
    subst hclk
    rw [exec_linkOnEdge] at hedge
    cases hedge
    rw [sampleEdge_falling hprev]
    rfl
  case notFalling =>
    rw [sampleEdge_not_falling hlevels]
    rfl

/-- Settles O7: on the AT bus the data line only; on the XT bus the data level, and the clock high again. -/
theorem sendBitDrivesTheBus : Obligations.SendBitDrivesTheBus := by
  intro value s
  refine ⟨?atBus, ?xtBus⟩
  case atBus => rw [exec_linkSendBit, sendBit, sendBitAt_eq]; rfl
  case xtBus => rw [exec_linkSendBit, sendBit, sendBitXt_eq]; rfl

/-- Settles O8: the two truth values are those of the test on each bus. -/
theorem isInhibitedReadsTheLine : Obligations.IsInhibitedReadsTheLine := fun clkIn s =>
  ⟨isInhibited .xtBus clkIn s, isInhibited .atBus clkIn s, exec_linkIsInhibited .xtBus clkIn s, isInhibited_xtBus_iff,
    exec_linkIsInhibited .atBus clkIn s, isInhibited_atBus_iff⟩

/-- Settles O9. -/
theorem xtEdgeOnlyWakes : Obligations.XtEdgeOnlyWakes := exec_linkXtEdge

end Sys2Proof.Machine
end

section
/-! The keyboard receiver of 41_keyboard_receiver_sm.md (R131 to R135): what each operation makes of an edge in its tag
and in time, and that it has no effect otherwise. -/

namespace Sys2Proof.Machine

/-! ### The shift register -/

/-- The receiver's write to the shift register moves the one bit and no other (R87, R132). -/
theorem getLsbD_setBit (v : Byte) (i : Nat) (b : Bit) {j : Nat} (hj : j < 8) :
    (setBit v i b).getLsbD j = if j = i then b else v.getLsbD j := by
  by_cases hji : j = i
  · subst hji
    cases b <;> simp [setBit, hj]
  · cases b <;> simp [setBit, hj, hji]

/-! ### The guard and the parity test -/

theorem atInTime_iff {ts : Nat} {s : State} :
    atInTime ts s = true ↔ ∀ d, s.atBus.deadline = some d → ts ≤ d := by
  rw [atInTime_eq, Bool.not_eq_true', expired_eq_false_iff]

/-- Odd parity: the parity bit is right when it differs from the parity of the data bits (R134). -/
theorem parityPasses_iff {acc p : Bit} : parityPasses acc p = true ↔ acc ≠ p := bne_iff_ne

theorem parityPasses_eq_false_iff {acc p : Bit} : parityPasses acc p = false ↔ acc = p := bne_eq_false_iff_eq

/-! ### `Q.PUSH` -/

theorem queuePush_of_room {c : Cfg} {s : State} (f : Frame) (hroom : s.q.length < c.queueCap) :
    queuePush c f s = s.withQ (s.q ++ [f]) := by
  obtain ⟨_, hpush⟩ | ⟨hfull, _⟩ := queuePush_cases c f s
  · exact hpush
  · exact absurd hroom (Nat.not_lt.mpr hfull)

theorem queuePush_of_full {c : Cfg} {s : State} (f : Frame) (hfull : c.queueCap ≤ s.q.length) :
    queuePush c f s = raise c .queueOverflow s := by
  obtain ⟨hroom, _⟩ | ⟨_, hdrop⟩ := queuePush_cases c f s
  · exact absurd hroom (Nat.not_lt.mpr hfull)
  · exact hdrop

/-! ### The operations of the receiver -/

section
variable {c : Cfg} {data : Bit} {ts : Nat} {s : State}

theorem rxStart_startBit (hst : s.atBus.st = .idle) : rxStart c false ts s =
    s.withAt ⟨.receiving 0, 0, false, false, some (ts + c.atBitTimeout), s.atBus.txByte, s.atBus.holdUntil⟩ := by
  obtain ⟨hne, _⟩ | ⟨_, hdata, _⟩ | ⟨_, _, hrun⟩ := rxStart_cases c false ts s
  · exact absurd hst hne
  · cases hdata
  · exact hrun

/-- An edge with data 1 begins no frame (R131). -/
theorem rxStart_noStartBit (hst : s.atBus.st = .idle) : rxStart c true ts s = raise c .framing s := by
  obtain ⟨hne, _⟩ | ⟨_, _, hrun⟩ | ⟨_, hdata, _⟩ := rxStart_cases c true ts s
  · exact absurd hst hne
  · exact hrun
  · cases hdata

theorem rxStart_of_not_idle (hst : s.atBus.st ≠ .idle) : rxStart c data ts s = s := by
  obtain ⟨_, hkeep⟩ | ⟨hidle, _⟩ | ⟨hidle, _⟩ := rxStart_cases c data ts s
  · exact hkeep
  · exact absurd hidle hst
  · exact absurd hidle hst

theorem rxData_inTime {i : Fin 8} (hst : s.atBus.st = .receiving i.castSucc) (htime : atInTime ts s = true) :
    rxData c i data ts s =
      s.withAt ⟨.receiving i.succ, setBit s.atBus.shift i.val data, s.atBus.parAcc ^^ data, s.atBus.parBit,
        some (ts + c.atBitTimeout), s.atBus.txByte, s.atBus.holdUntil⟩ := by
  obtain ⟨hguard, _⟩ | ⟨_, _, hrun⟩ := rxData_cases c i data ts s
  · exact absurd ⟨hst, htime⟩ hguard
  · exact hrun

theorem rxData_of_other_tag {i : Fin 8} (hst : s.atBus.st ≠ .receiving i.castSucc) : rxData c i data ts s = s := by
  obtain ⟨_, hkeep⟩ | ⟨htag, _⟩ := rxData_cases c i data ts s
  · exact hkeep
  · exact absurd htag hst

theorem rxParity_inTime (hst : s.atBus.st = .receiving 8) (htime : atInTime ts s = true) :
    rxParity c data ts s =
      s.withAt ⟨.parityCheck, s.atBus.shift, s.atBus.parAcc, data, some (ts + c.atBitTimeout), s.atBus.txByte,
        s.atBus.holdUntil⟩ := by
  obtain ⟨hguard, _⟩ | ⟨_, _, hrun⟩ := rxParity_cases c data ts s
  · exact absurd ⟨hst, htime⟩ hguard
  · exact hrun

theorem rxParity_of_other_tag (hst : s.atBus.st ≠ .receiving 8) : rxParity c data ts s = s := by
  obtain ⟨_, hkeep⟩ | ⟨htag, _⟩ := rxParity_cases c data ts s
  · exact hkeep
  · exact absurd htag hst

/-- The stop bit is examined first: when it is 0, parity is not looked at (R134, R246). -/
theorem rxStop_badStopBit (hst : s.atBus.st = .parityCheck) (htime : atInTime ts s = true) :
    rxStop c false ts s = linkResetAt (raise c .framing s) := by
  obtain ⟨hguard, _⟩ | ⟨_, _, ⟨_, hrun⟩ | ⟨hdata, _⟩ | ⟨hdata, _⟩⟩ := rxStop_cases c false ts s
  · exact absurd ⟨hst, htime⟩ hguard
  · exact hrun
  · cases hdata
  · cases hdata

/-- With a good stop bit parity decides between the error and the push (R134). -/
theorem rxStop_goodStopBit (hst : s.atBus.st = .parityCheck) (htime : atInTime ts s = true) :
    rxStop c true ts s = linkResetAt (if s.atBus.parAcc = s.atBus.parBit then raise c .parity s
      else queuePush c (receivedFrame s.atBus) s) := by
  obtain ⟨hguard, _⟩ | ⟨_, _, ⟨hdata, _⟩ | ⟨_, hparity, hrun⟩ | ⟨_, hparity, hrun⟩⟩ := rxStop_cases c true ts s
  · exact absurd ⟨hst, htime⟩ hguard
  · cases hdata
  · rw [hrun, if_pos (parityPasses_eq_false_iff.mp hparity)]
  · rw [hrun, if_neg (parityPasses_iff.mp hparity)]

theorem rxTimeout_expired (hst : s.atBus.st.isFrameReceive = true) (hlate : expired s.atBus.deadline ts = true) :
    rxTimeout c ts s = linkResetAt (raise c .timeout s) := by
  obtain ⟨hguard, _⟩ | ⟨_, _, hrun⟩ := rxTimeout_cases c ts s
  · exact absurd ⟨hst, hlate⟩ hguard
  · exact hrun

theorem rxTimeout_of_not_receiving_or_inTime
    (h : s.atBus.st.isFrameReceive = false ∨ expired s.atBus.deadline ts = false) : rxTimeout c ts s = s := by
  obtain ⟨_, hkeep⟩ | ⟨hreceive, hlate, _⟩ := rxTimeout_cases c ts s
  · exact hkeep
  · simp [hreceive, hlate] at h

end

/-! ### The instructions of the receiver -/

theorem exec_rxStart (data : Bit) (ts : Nat) (s : State) :
    exec (.rxStart data ts) s = .next (rxStart cfg data ts s) := rfl

theorem exec_rxData (i : Fin 8) (data : Bit) (ts : Nat) (s : State) :
    exec (.rxData i data ts) s = .next (rxData cfg i data ts s) := rfl

theorem exec_rxParity (data : Bit) (ts : Nat) (s : State) :
    exec (.rxParity data ts) s = .next (rxParity cfg data ts s) := rfl

theorem exec_rxStop (data : Bit) (ts : Nat) (s : State) :
    exec (.rxStop data ts) s = .next (rxStop cfg data ts s) := rfl

theorem exec_rxTimeout (ts : Nat) (s : State) : exec (.rxTimeout ts) s = .next (rxTimeout cfg ts s) := rfl

/-! ### The obligations -/

/-- Settles O13: the value written is the old one with bit `i` set to the sampled level. -/
theorem rxDataWritesOneBit : Obligations.RxDataWritesOneBit := by
  intro i data ts s
  rw [exec_rxData]
  refine ⟨fun hst htime => ⟨setBit s.atBus.shift i.val data, ?run, fun j hj => getLsbD_setBit _ _ _ hj⟩,
    fun hst => ?otherTag⟩
  case run => rw [rxData_inTime hst (atInTime_iff.mpr htime)]; rfl
  case otherTag => rw [rxData_of_other_tag hst]

/-- Settles O15: the order of the three tests is that of `rxStop_badStopBit`, `rxStop_goodStopBit` and the two sides of
`Q.PUSH`, whose capacity is 16 in this core. -/
theorem rxStopDecidesTheFrame : Obligations.RxStopDecidesTheFrame := by
  intro ts s hst hdeadline
  have htime : atInTime ts s = true := atInTime_iff.mpr hdeadline
  rw [exec_rxStop, exec_rxStop]
  refine ⟨?stopBit, fun hparity => ?parity, fun hparity hroom => ?pushed, fun hparity hfull => ?dropped⟩
  case stopBit => rw [rxStop_badStopBit hst htime]; rfl
  case parity => rw [rxStop_goodStopBit hst htime, if_pos hparity]; rfl
  case pushed => rw [rxStop_goodStopBit hst htime, if_neg hparity, queuePush_of_room (c := cfg) _ hroom]; rfl
  case dropped => rw [rxStop_goodStopBit hst htime, if_neg hparity, queuePush_of_full (c := cfg) _ hfull]; rfl

/-- Settles O12: in `Idle` the data level decides, in another tag nothing happens. -/
theorem rxStartTakesStartBit : Obligations.RxStartTakesStartBit := by
  intro ts s
  refine ⟨fun hst => ⟨?startBit, ?noStartBit⟩, fun hst data => ?otherTag⟩
  case startBit => rw [exec_rxStart, rxStart_startBit hst]; rfl
  case noStartBit => rw [exec_rxStart, rxStart_noStartBit hst]; rfl
  case otherTag => rw [exec_rxStart, rxStart_of_not_idle hst]

/-- Settles O14: the bit is stored as it is sampled, with no test of `par_acc`. -/
theorem rxParityStoresBit : Obligations.RxParityStoresBit := by
  intro data ts s
  rw [exec_rxParity]
  refine ⟨fun hst htime => ?stored, fun hst => ?otherTag⟩
  case stored => rw [rxParity_inTime hst (atInTime_iff.mpr htime)]; rfl
  case otherTag => rw [rxParity_of_other_tag hst]

/-- Settles O16: an edge at exactly the deadline is in time, so the two clauses meet at no time and leave none out. -/
theorem rxTimeoutAbandonsFrame : Obligations.RxTimeoutAbandonsFrame := by
  intro ts s
  rw [exec_rxTimeout]
  refine ⟨fun d hst hd hlt => ?abandoned, fun h => ?kept⟩
  case abandoned =>
    have hlate : expired s.atBus.deadline ts = true := by simpa [hd, expired_some] using hlt
    rw [rxTimeout_expired hst hlate]
    rfl
  case kept => rw [rxTimeout_of_not_receiving_or_inTime (h.imp_right expired_eq_false_iff.mpr)]

end Sys2Proof.Machine
end

section
/-! The keyboard transmitter of 42_keyboard_transmitter_sm.md (R151 to R156): what each operation does when its guard is
met, and that it has no effect otherwise. -/

namespace Sys2Proof.Machine

/-! ### The bit at an index, and the tag after it -/

/-- At a data index the byte's own bit goes out (R154). -/
theorem txBitValue_data {a : AtLink} {i : Fin 10} (hi : i.val ≤ 7) : txBitValue a i = a.txByte.getLsbD i.val := by
  simp [txBitValue, hi]

/-- The parity bit makes the number of ones odd (R85, R154). -/
theorem txBitValue_parity (a : AtLink) : txBitValue a 8 = !a.parAcc := by
  simp [txBitValue]

theorem txBitValue_stop (a : AtLink) : txBitValue a 9 = true := by
  simp [txBitValue]

theorem txNextState_data {i : Fin 10} (hi : i.val ≤ 7) : txNextState i = .txSending ⟨i.val + 1, by omega⟩ := by
  have hnotStop : i.val < 9 := by omega
  simp [txNextState, hnotStop]

theorem txNextState_parity : txNextState 8 = .txSending 9 := rfl

theorem txNextState_stop : txNextState 9 = .txAwaitAck := rfl

/-! ### The operations of the transmitter -/

section
variable {c : Cfg} {atClk data : Bit} {ts : Nat} {s : State}

/-- The guard of R151: a command waits, the link is idle, no report waits, and the keyboard does not hold the clock. -/
theorem txRequest_ready {k : Command} {ks : List Command} (hq : s.cmdQ = k :: ks) (hst : s.atBus.st = .idle)
    (hreport : s.txResult = .none) (hclk : isInhibited .atBus atClk s = false) :
    txRequest c atClk ts s = (s.withPins { s.pins with atClkLow := true }).withAt { s.atBus with
      txByte := k.first, holdUntil := ts + c.atReqHold, st := .txHold } := by
  simp [txRequest, hq, hst, hreport, hclk]

/-- Each part of the guard of R151 alone keeps the command waiting. -/
theorem txRequest_not_ready
    (h : s.cmdQ = [] ∨ s.atBus.st ≠ .idle ∨ s.txResult ≠ .none ∨ isInhibited .atBus atClk s = true) :
    txRequest c atClk ts s = s := by
  obtain hkeep | ⟨k, ks, hq, hst, hreport, hclk, _⟩ := txRequest_cases c atClk ts s
  · exact hkeep
  · simp [hq, hst, hreport, hclk] at h

theorem txRelease_held (hst : s.atBus.st = .txHold) (htime : s.atBus.holdUntil ≤ ts) :
    txRelease c ts s = (s.withPins { s.pins with atClkLow := false, atDataLow := true }).withAt { s.atBus with
      parAcc := false, deadline := some (ts + c.atAckTimeout), st := .txSending 0 } := by
  obtain ⟨hguard, _⟩ | ⟨_, _, hrun⟩ := txRelease_cases c ts s
  · exact absurd ⟨hst, htime⟩ hguard
  · exact hrun

theorem txRelease_of_not_held_or_early (h : s.atBus.st ≠ .txHold ∨ ts < s.atBus.holdUntil) :
    txRelease c ts s = s := by
  obtain ⟨_, hkeep⟩ | ⟨hst, htime, _⟩ := txRelease_cases c ts s
  · exact hkeep
  · obtain hother | hearly := h
    · exact absurd hst hother
    · exact absurd htime (Nat.not_le.mpr hearly)

theorem txBit_inTime {i : Fin 10} (hst : s.atBus.st = .txSending i) (htime : atInTime ts s = true) :
    txBit c i ts s = (sendBitAt (txBitValue s.atBus i) s).withAt { s.atBus with
      parAcc := if i.val ≤ 7 then s.atBus.parAcc ^^ txBitValue s.atBus i else s.atBus.parAcc,
      deadline := some (ts + c.atAckTimeout), st := txNextState i } := by
  obtain ⟨hguard, _⟩ | ⟨_, _, hrun⟩ := txBit_cases c i ts s
  · exact absurd ⟨hst, htime⟩ hguard
  · exact hrun

/-- A data bit goes out and into the parity (R154). -/
theorem txBit_data {i : Fin 10} (hi : i.val ≤ 7) (hst : s.atBus.st = .txSending i) (htime : atInTime ts s = true) :
    txBit c i ts s = (sendBitAt (s.atBus.txByte.getLsbD i.val) s).withAt { s.atBus with
      parAcc := s.atBus.parAcc ^^ s.atBus.txByte.getLsbD i.val,
      deadline := some (ts + c.atAckTimeout), st := .txSending ⟨i.val + 1, by omega⟩ } := by
  rw [txBit_inTime hst htime, if_pos hi, txBitValue_data hi, txNextState_data hi]

/-- The parity bit goes out; the accumulated parity stays as it is (R154). -/
theorem txBit_parity (hst : s.atBus.st = .txSending 8) (htime : atInTime ts s = true) :
    txBit c 8 ts s = (sendBitAt (!s.atBus.parAcc) s).withAt { s.atBus with
      deadline := some (ts + c.atAckTimeout), st := .txSending 9 } := by
  rw [txBit_inTime hst htime, if_neg (by decide), txBitValue_parity, txNextState_parity]

/-- The stop bit goes out and the acknowledgment is awaited (R154). -/
theorem txBit_stop (hst : s.atBus.st = .txSending 9) (htime : atInTime ts s = true) :
    txBit c 9 ts s = (sendBitAt true s).withAt { s.atBus with
      deadline := some (ts + c.atAckTimeout), st := .txAwaitAck } := by
  rw [txBit_inTime hst htime, if_neg (by decide), txBitValue_stop, txNextState_stop]

/-- The edge is the acknowledgment, with either data level (R155). -/
theorem txAck_inTime (hst : s.atBus.st = .txAwaitAck) (htime : atInTime ts s = true) :
    txAck data ts s = emit (.atTxDelivered s.atBus.txByte) (linkResetAt (s.withTxResult .delivered)) := by
  obtain ⟨hguard, _⟩ | ⟨_, _, hrun⟩ := txAck_cases data ts s
  · exact absurd ⟨hst, htime⟩ hguard
  · exact hrun

theorem txAck_of_other_tag (hst : s.atBus.st ≠ .txAwaitAck) : txAck data ts s = s := by
  obtain ⟨_, hkeep⟩ | ⟨htag, _⟩ := txAck_cases data ts s
  · exact hkeep
  · exact absurd htag hst

theorem txTimeout_expired (hst : s.atBus.st.isFrameSend = true) (hlate : expired s.atBus.deadline ts = true) :
    txTimeout c ts s = emit (.atTxFailed s.atBus.txByte)
      (linkResetAt (((raise c .timeout s).withTxResult .failed).withPins
        { s.pins with atClkLow := false, atDataLow := false })) := by
  obtain ⟨hguard, _⟩ | ⟨_, _, hrun⟩ := txTimeout_cases c ts s
  · exact absurd ⟨hst, hlate⟩ hguard
  · exact hrun

theorem txTimeout_of_not_sending_or_inTime
    (h : s.atBus.st.isFrameSend = false ∨ expired s.atBus.deadline ts = false) : txTimeout c ts s = s := by
  obtain ⟨_, hkeep⟩ | ⟨hsend, hlate, _⟩ := txTimeout_cases c ts s
  · exact hkeep
  · simp [hsend, hlate] at h

end

/-! ### The instructions of the transmitter -/

theorem exec_txRequest (atClk : Bit) (ts : Nat) (s : State) :
    exec (.txRequest atClk ts) s = .next (txRequest cfg atClk ts s) := rfl

theorem exec_txRelease (ts : Nat) (s : State) : exec (.txRelease ts) s = .next (txRelease cfg ts s) := rfl

theorem exec_txHoldEdge (s : State) : exec .txHoldEdge s = .next s := rfl

theorem exec_txBit (i : Fin 10) (ts : Nat) (s : State) : exec (.txBit i ts) s = .next (txBit cfg i ts s) := rfl

theorem exec_txAck (data : Bit) (ts : Nat) (s : State) : exec (.txAck data ts) s = .next (txAck data ts s) := rfl

theorem exec_txTimeout (ts : Nat) (s : State) : exec (.txTimeout ts) s = .next (txTimeout cfg ts s) := rfl

/-! ### The obligations -/

/-- Settles O22: the index selects the bit put out and the tag after it; only a data bit enters the parity. -/
theorem txBitPutsOutTheFrameBit : Obligations.TxBitPutsOutTheFrameBit := by
  intro ts s hdeadline
  have htime : atInTime ts s = true := atInTime_iff.mpr hdeadline
  refine ⟨fun i hi hst => ?dataBit, fun hst => ?parityBit, fun hst => ?stopBit⟩
  case dataBit => rw [exec_txBit, txBit_data hi hst htime, sendBitAt_eq]; rfl
  case parityBit => rw [exec_txBit, txBit_parity hst htime, sendBitAt_eq, Bool.not_not]; rfl
  case stopBit => rw [exec_txBit, txBit_stop hst htime, sendBitAt_eq]; rfl

/-- Settles O19: the last part of the guard is the inhibit test of the AT bus. -/
theorem txRequestPullsClockLow : Obligations.TxRequestPullsClockLow := by
  intro atClk ts s
  rw [exec_txRequest]
  refine ⟨fun k ks hq hst hreport hclk => ?requested, fun h => ?waits⟩
  case requested =>
    have hfree : isInhibited .atBus atClk s = false :=
      Bool.eq_false_iff.mpr (mt isInhibited_atBus_iff.mp hclk)
    rw [txRequest_ready hq hst hreport hfree]
    rfl
  case waits =>
    rw [← isInhibited_atBus_iff] at h
    rw [txRequest_not_ready h]

/-- Settles O20: a pass at exactly `hold_until` releases, so the two clauses meet at no time and leave none out. -/
theorem txReleasePutsOutStartBit : Obligations.TxReleasePutsOutStartBit := by
  intro ts s
  rw [exec_txRelease]
  refine ⟨fun hst htime => ?released, fun h => ?kept⟩
  case released => rw [txRelease_held hst htime]; rfl
  case kept => rw [txRelease_of_not_held_or_early h]

/-- Settles O21. -/
theorem txHoldEdgeDoesNothing : Obligations.TxHoldEdgeDoesNothing := exec_txHoldEdge

/-- Settles O23: `txAck_inTime` holds of both data levels. -/
theorem txAckReportsDelivery : Obligations.TxAckReportsDelivery := by
  intro data ts s
  rw [exec_txAck]
  refine ⟨fun hst hdeadline => ?delivered, fun hst => ?otherTag⟩
  case delivered => rw [txAck_inTime hst (atInTime_iff.mpr hdeadline), emit_eq, linkResetAt_eq]; rfl
  case otherTag => rw [txAck_of_other_tag hst]

/-- Settles O24: an edge at exactly the deadline is in time, as for the receiver. -/
theorem txTimeoutAbortsTheSend : Obligations.TxTimeoutAbortsTheSend := by
  intro ts s
  rw [exec_txTimeout]
  refine ⟨fun d hst hd hlt => ?aborted, fun h => ?kept⟩
  case aborted =>
    have hlate : expired s.atBus.deadline ts = true := by simpa [hd, expired_some] using hlt
    rw [txTimeout_expired hst hlate, emit_eq, linkResetAt_eq, raise_eq]
    rfl
  case kept => rw [txTimeout_of_not_sending_or_inTime (h.imp_right expired_eq_false_iff.mpr)]

end Sys2Proof.Machine
end

section
/-! The host transmitter of 43_host_transmitter_sm.md (R171, R172): the byte that is loaded, and what a pass makes of
it on an inhibited and on a free bus. -/

namespace Sys2Proof.Machine

/-! ### `XT.LOAD` -/

theorem xtLoad_idle {b : Byte} {s : State} (hst : s.xtBus.st = .idle) :
    xtLoad b s = s.withXt ⟨.sending 0, b, s.xtBus.parAcc, s.xtBus.nextBitAt, none⟩ := by
  obtain ⟨hne, _⟩ | ⟨_, hrun⟩ := xtLoad_cases b s
  · exact absurd hst hne
  · exact hrun

theorem xtLoad_of_not_idle {b : Byte} {s : State} (hst : s.xtBus.st ≠ .idle) : xtLoad b s = s := by
  obtain ⟨_, hkeep⟩ | ⟨hidle, _⟩ := xtLoad_cases b s
  · exact hkeep
  · exact absurd hidle hst

/-! ### `XT.STEP`

The tests of R172 exclude each other: the tag, the clock level, and the facts named in a lemma refute every case of
`xtStep_cases` but its own. -/

section
variable {c : Cfg} {p ts : Nat} {s : State}

theorem xtStep_idle (xtClk : Bit) (hst : s.xtBus.st = .idle) : xtStep c xtClk ts s = s := by
  obtain ⟨_, hkeep⟩ | ⟨_, hsending, _⟩ := xtStep_cases c xtClk ts s
  · exact hkeep
  · simp [hst] at hsending

/-- The first inhibited pass marks the time at which the stall began. -/
theorem xtStep_stallBegins (hst : s.xtBus.st = .sending p) (hsince : s.xtBus.inhibitSince = none) :
    xtStep c false ts s = s.withXt { s.xtBus with inhibitSince := some ts } := by
  simpa [hst, hsince] using xtStep_cases c false ts s

/-- Under inhibition that has begun, the length of the stall alone decides. -/
theorem xtStep_stalled_cases {t0 : Nat} (hst : s.xtBus.st = .sending p) (hsince : s.xtBus.inhibitSince = some t0) :
    (ts - t0 ≤ c.xtInhibitMaxWait ∧ xtStep c false ts s = s) ∨
    (c.xtInhibitMaxWait < ts - t0 ∧ xtStep c false ts s =
      emit (.xtDropped s.xtBus.shift) (xtRelease (raise c .transmitInhibitedExceeded s))) := by
  simpa [hst, hsince] using xtStep_cases c false ts s

/-- A stall of exactly the maximum wait still lasts. -/
theorem xtStep_stallLasts {t0 : Nat} (hst : s.xtBus.st = .sending p) (hsince : s.xtBus.inhibitSince = some t0)
    (hwait : ts - t0 ≤ c.xtInhibitMaxWait) : xtStep c false ts s = s := by
  obtain ⟨_, hkeep⟩ | ⟨hlonger, _⟩ := xtStep_stalled_cases (c := c) (ts := ts) hst hsince
  · exact hkeep
  · exact absurd hwait (Nat.not_le.mpr hlonger)

/-- A longer stall drops the byte, and says so in the counter and in the output. -/
theorem xtStep_stallDrops {t0 : Nat} (hst : s.xtBus.st = .sending p) (hsince : s.xtBus.inhibitSince = some t0)
    (hwait : c.xtInhibitMaxWait < ts - t0) :
    xtStep c false ts s =
      emit (.xtDropped s.xtBus.shift) (xtRelease (raise c .transmitInhibitedExceeded s)) := by
  obtain ⟨hshorter, _⟩ | ⟨_, hrun⟩ := xtStep_stalled_cases (c := c) (ts := ts) hst hsince
  · exact absurd hwait (Nat.not_lt.mpr hshorter)
  · exact hrun

/-- A free pass before the bit's time ends a stall and no more. -/
theorem xtStep_early (hst : s.xtBus.st = .sending p) (htime : ts < s.xtBus.nextBitAt) :
    xtStep c true ts s = s.withXt { s.xtBus with inhibitSince := none } := by
  simpa [hst, htime, Nat.not_le.mpr htime] using xtStep_cases c true ts s

theorem xtStep_sendsBit (hst : s.xtBus.st = .sending p) (htime : s.xtBus.nextBitAt ≤ ts)
    (hmore : p + 1 ≠ xtFrameLen c.xtFrameBits) :
    xtStep c true ts s = (sendBitXt (xtFrameBit c.xtFrameBits s.xtBus.shift p) s).withXt
      ⟨.sending (p + 1), s.xtBus.shift, s.xtBus.parAcc, ts + c.xtBitPeriod, none⟩ := by
  simpa [hst, htime, hmore, Nat.not_lt.mpr htime] using xtStep_cases c true ts s

/-- The last bit ends the byte and releases the data line, which the bit itself has driven. -/
theorem xtStep_sendsLastBit (hst : s.xtBus.st = .sending p) (htime : s.xtBus.nextBitAt ≤ ts)
    (hlast : p + 1 = xtFrameLen c.xtFrameBits) :
    xtStep c true ts s = emit (.xtByte s.xtBus.shift) (xtRelease
      ((sendBitXt (xtFrameBit c.xtFrameBits s.xtBus.shift p) s).withXt
        ⟨.sending p, s.xtBus.shift, s.xtBus.parAcc, ts + c.xtBitPeriod, none⟩)) := by
  simpa [hst, htime, hlast, Nat.not_lt.mpr htime] using xtStep_cases c true ts s

end

/-! ### The instructions of the host transmitter -/

theorem exec_xtLoad (b : Byte) (s : State) : exec (.xtLoad b) s = .next (xtLoad b s) := rfl

theorem exec_xtStep (xtClk : Bit) (ts : Nat) (s : State) :
    exec (.xtStep xtClk ts) s = .next (xtStep cfg xtClk ts s) := rfl

/-! ### The obligations -/

/-- Settles O27: the clock level separates the stall from the advance, so the inhibition test comes before the timing
test; the wait divides the one and `next_bit_at` with the position the other. -/
theorem xtStepSendsOrStalls : Obligations.XtStepSendsOrStalls := by
  intro p ts s
  refine ⟨fun xtClk hst => ?idle, fun hst => ?sending⟩
  case idle => rw [exec_xtStep, xtStep_idle xtClk hst]
  case sending =>
    rw [exec_xtStep, exec_xtStep]
    refine ⟨fun hsince => ?stallBegins, fun t0 hsince hwait => ?stallLasts, fun t0 hsince hwait => ?stallDrops,
      fun htime => ?early, fun htime hmore => ?bit, fun htime hlast => ?lastBit⟩
    case stallBegins => rw [xtStep_stallBegins hst hsince]; rfl
    case stallLasts => rw [xtStep_stallLasts hst hsince hwait]
    case stallDrops => rw [xtStep_stallDrops hst hsince hwait, emit_eq, xtRelease_eq, raise_eq]; rfl
    case early => rw [xtStep_early hst htime]; rfl
    case bit => rw [xtStep_sendsBit hst htime hmore, sendBitXt_eq]; rfl
    case lastBit =>
      rw [xtStep_sendsLastBit hst htime hlast, emit_eq, xtRelease_eq, sendBitXt_eq]
      simp only [State.withXt_trace, State.withPins_trace, State.withTrace_trace, List.append_assoc]
      rfl

/-- Settles O26: the loaded byte keeps the `next_bit_at` of the one before. -/
theorem xtLoadBeginsTheByte : Obligations.XtLoadBeginsTheByte := by
  intro b s
  rw [exec_xtLoad]
  refine ⟨fun hst => ?loaded, fun hst => ?kept⟩
  case loaded => rw [xtLoad_idle hst]; rfl
  case kept => rw [xtLoad_of_not_idle hst]

end Sys2Proof.Machine
end

section
/-! The scan code translator of 44_scan_code_translator.md (R191 to R194): what a prefix byte, an entry of the
Translation Table and a code without one make of the Translation State. -/

namespace Sys2Proof.Machine

theorem isPrefixByte_eq_false_iff {b : Byte} : isPrefixByte b = false ↔ b ≠ 0xE0#8 ∧ b ≠ 0xF0#8 := by
  simp [isPrefixByte]

/-! ### `XL.DATA` and `XL.UNKNOWN` -/

section
variable {c : Cfg} {b : Byte} {s : State}

theorem runXlData_answered {xs : List Byte} (hb : isPrefixByte b = false)
    (hxlat : c.xlat s.tr.ext s.tr.brk b = some xs) :
    runXlData c b xs s = .next ((clearModeBits s).withRet (.bytes xs)) := by
  simp [runXlData, hb, hxlat, returning, xlOutput]

/-- Another output, or none at all, is not this operation's (R12, R193). -/
theorem runXlData_not_answered {xs : List Byte} (hxlat : c.xlat s.tr.ext s.tr.brk b ≠ some xs) :
    runXlData c b xs s = .next s := by
  simp [runXlData, hxlat]

theorem runXlUnknown_noEntry (hb : isPrefixByte b = false) (hxlat : c.xlat s.tr.ext s.tr.brk b = none) :
    runXlUnknown c b s = .next ((clearModeBits (raise c .unknownScanCode s)).withRet (.bytes [])) := by
  simp [runXlUnknown, hb, hxlat, returning, xlUnknown]

theorem runXlUnknown_entry {xs : List Byte} (hxlat : c.xlat s.tr.ext s.tr.brk b = some xs) :
    runXlUnknown c b s = .next s := by
  simp [runXlUnknown, hxlat]

end

/-! ### The instructions of the translator -/

theorem exec_xlPrefixE0 (s : State) :
    exec .xlPrefixE0 s = .next ((s.withTr { s.tr with ext := true }).withRet (.bytes [])) := rfl

theorem exec_xlPrefixF0 (s : State) :
    exec .xlPrefixF0 s = .next ((s.withTr { s.tr with brk := true }).withRet (.bytes [])) := rfl

/-- The payload byte 0xE0 selects `XL.PREFIX_E0` (R86). -/
theorem exec_prefixE0 (s : State) : exec .prefixE0 s = exec .xlPrefixE0 s := rfl

/-- The payload byte 0xF0 selects `XL.PREFIX_F0` (R86). -/
theorem exec_prefixF0 (s : State) : exec .prefixF0 s = exec .xlPrefixF0 s := rfl

theorem exec_xlData (b : Byte) (xs : List Byte) (s : State) : exec (.xlData b xs) s = runXlData cfg b xs s := rfl

theorem exec_xlUnknown (b : Byte) (s : State) : exec (.xlUnknown b) s = runXlUnknown cfg b s := rfl

/-! ### The obligations -/

/-- Settles O32: the payload bytes are the two prefix operations, and each of these writes its one mode bit. -/
theorem prefixesSetTheirModeBit : Obligations.PrefixesSetTheirModeBit := by
  intro s
  rw [exec_prefixE0, exec_prefixF0, exec_xlPrefixE0, exec_xlPrefixF0]
  exact ⟨rfl, rfl, rfl, rfl⟩

/-- Settles O33: the table's answer for the page and the pending break is the whole guard of a data byte. -/
theorem xlDataReturnsTheEntry : Obligations.XlDataReturnsTheEntry := by
  intro b xs s hE0 hF0
  rw [exec_xlData]
  refine ⟨fun hxlat => ?answered, fun hxlat => ?notAnswered⟩
  case answered =>
    rw [runXlData_answered (isPrefixByte_eq_false_iff.mpr ⟨hE0, hF0⟩) hxlat, clearModeBits_eq]
    rfl
  case notAnswered => rw [runXlData_not_answered hxlat]

/-- Settles O34: the failed lookup counts first and then clears the mode bits as a data byte does. -/
theorem xlUnknownCountsAndClears : Obligations.XlUnknownCountsAndClears := by
  intro b s hE0 hF0
  rw [exec_xlUnknown]
  refine ⟨fun hxlat => ?noEntry, fun xs hxlat => ?entry⟩
  case noEntry =>
    rw [runXlUnknown_noEntry (isPrefixByte_eq_false_iff.mpr ⟨hE0, hF0⟩) hxlat, clearModeBits_eq, raise_eq]
    rfl
  case entry => rw [runXlUnknown_entry hxlat]

end Sys2Proof.Machine
end

section
/-! The command bridge (R200 to R202): the two host requests that queue a command, and the service that consumes the
transmitter's report before it advances the transmitter. -/

namespace Sys2Proof.Machine

/-! ### Queueing a command -/

theorem queueCommand_of_room {c : Cfg} {s : State} (k : Command) (hroom : s.cmdQ.length < c.cmdQCap) :
    queueCommand c k s = s.withCmdQ (s.cmdQ ++ [k]) := by
  obtain ⟨_, hqueued⟩ | ⟨hfull, _⟩ := queueCommand_cases c k s
  · exact hqueued
  · exact absurd hroom (Nat.not_lt.mpr hfull)

theorem queueCommand_of_full {c : Cfg} {s : State} (k : Command) (hfull : c.cmdQCap ≤ s.cmdQ.length) :
    queueCommand c k s = raise c .commandDeliveryFailed s := by
  obtain ⟨hroom, _⟩ | ⟨_, hcounted⟩ := queueCommand_cases c k s
  · exact absurd hroom (Nat.not_lt.mpr hfull)
  · exact hcounted

/-! ### Consuming the report -/

section
variable {c : Cfg} {s t : State} {k : Command} {ks : List Command}

theorem commandComplete_setLeds (hkind : k.kind = .setLeds) : commandComplete k ks s = s.withCmdQ ks := by
  simp [commandComplete, hkind]

/-- An acknowledged reset puts the translator back to its default (R202, D21). -/
theorem commandComplete_reset (hkind : k.kind = .reset) :
    commandComplete k ks s = (s.withCmdQ ks).withTr ⟨false, false, 0⟩ := by
  simp [commandComplete, hkind]

theorem commandComplete_atBus : (commandComplete k ks s).atBus = s.atBus := by
  cases hkind : k.kind with
  | setLeds => rw [commandComplete_setLeds hkind, State.withCmdQ_atBus]
  | reset => rw [commandComplete_reset hkind, State.withTr_atBus, State.withCmdQ_atBus]

theorem consumeReport_none (hreport : s.txResult = .none) : consumeReport c s = some s := by
  simp [consumeReport, hreport]

/-- A byte inside a command: its next byte becomes the one to send (R202). -/
theorem consumeReport_byteDelivered {b : Byte} {bs : List Byte} (hreport : s.txResult = .delivered)
    (hq : s.cmdQ = k :: ks) (hrest : k.rest = b :: bs) :
    consumeReport c s = some ((((s.withTxResult .none).withCmdAttempts 0).withKbdUnresponsive false).withCmdQ
      (⟨k.kind, b, bs⟩ :: ks)) := by
  simp [consumeReport, hreport, reportDelivered, hq, hrest]

/-- The last byte of a command: the command is complete (R202). -/
theorem consumeReport_commandDelivered (hreport : s.txResult = .delivered) (hq : s.cmdQ = k :: ks)
    (hrest : k.rest = []) :
    consumeReport c s =
      some (commandComplete k ks (((s.withTxResult .none).withCmdAttempts 0).withKbdUnresponsive false)) := by
  simp [consumeReport, hreport, reportDelivered, hq, hrest]

/-- With an attempt left, the same byte is sent again (R202). -/
theorem consumeReport_retry (hreport : s.txResult = .failed) (hleft : s.cmdAttempts + 1 < c.cmdMaxAttempts) :
    consumeReport c s = some ((s.withTxResult .none).withCmdAttempts (s.cmdAttempts + 1)) := by
  simp [consumeReport, hreport, reportFailed, Nat.not_le.mpr hleft]

/-- After the last attempt the whole command is given up and the keyboard reported (R202, D10). -/
theorem consumeReport_giveUp (hreport : s.txResult = .failed) (hlast : c.cmdMaxAttempts ≤ s.cmdAttempts + 1) :
    consumeReport c s = some (emit .keyboardUnresponsive ((raise c .commandDeliveryFailed
      (((s.withTxResult .none).withCmdQ s.cmdQ.tail).withCmdAttempts 0)).withKbdUnresponsive true)) := by
  simp [consumeReport, hreport, reportFailed, hlast]

/-- The link does not move while the report is consumed, so the tag that decides how the transmitter is advanced is
the one before the service. -/
theorem consumeReport_atBus (h : consumeReport c s = some t) : t.atBus = s.atBus := by
  obtain ⟨_, rfl⟩ | ⟨k, ks, _, _, _, rfl⟩ | ⟨k, ks, b, bs, _, _, _, rfl⟩ | ⟨_, _, rfl⟩ | ⟨_, _, rfl⟩ :=
    consumeReport_cases c s t h
  case inr.inl => exact commandComplete_atBus
  all_goals rfl

end

/-! ### The instructions of the bridge -/

theorem exec_brSetIndicators (mask : Byte) (s : State) :
    exec (.brSetIndicators mask) s = .next (queueCommand cfg ⟨.setLeds, 0xED#8, [mask &&& 0x07#8]⟩
      ((s.withAsleep false).withTr { s.tr with ind := mask &&& 0x07#8 })) := rfl

theorem exec_brReset (s : State) :
    exec .brReset s = .next (queueCommand cfg ⟨.reset, 0xFF#8, []⟩ (s.withAsleep false)) := rfl

/-- Advancing the transmitter is the one operation its tag selects (R202). -/
theorem exec_advance (atClk : Bit) (ts : Nat) (s : State) :
    exec (if s.atBus.st = .txHold then .txRelease ts else .txRequest atClk ts) s =
      .next (advanceTransmitter cfg atClk ts s) := by
  obtain ⟨hhold, hrelease⟩ | ⟨hother, hrequest⟩ := advanceTransmitter_cases cfg atClk ts s
  · rw [if_pos hhold, hrelease, exec_txRelease]
  · rw [if_neg hother, hrequest, exec_txRequest]

theorem exec_brService_of_consumed {atClk : Bit} {ts : Nat} {s t : State} (h : consumeReport cfg s = some t) :
    exec (.brService atClk ts) s = .next (advanceTransmitter cfg atClk ts t) := by
  change serviced ((consumeReport cfg s).map (advanceTransmitter cfg atClk ts)) = _
  rw [h]
  rfl

/-- A service is the operation selected by the tag before it, run where the report has been consumed (R202). -/
theorem exec_brService_eq_exec {atClk : Bit} {ts : Nat} {s t : State} {i : Instr}
    (hi : i = if s.atBus.st = .txHold then .txRelease ts else .txRequest atClk ts)
    (h : consumeReport cfg s = some t) : exec (.brService atClk ts) s = exec i t := by
  rw [exec_brService_of_consumed h, hi, ← consumeReport_atBus h, exec_advance]

/-! ### The obligations -/

/-- Settles O43: the second half is the same for every report, so each clause is what `consumeReport` makes of its
report. -/
theorem serviceConsumesReportThenAdvances : Obligations.ServiceConsumesReportThenAdvances := by
  intro atClk ts s i hi
  refine ⟨fun hreport => ?noReport, fun k ks b bs hreport hq hrest => ?byteDelivered,
    fun k ks hreport hq hrest hkind => ?ledsSet, fun k ks hreport hq hrest hkind => ?resetAcknowledged,
    fun hreport hleft => ?retry, fun hreport hlast => ?giveUp⟩
  case noReport => exact exec_brService_eq_exec hi (consumeReport_none hreport)
  case byteDelivered => exact exec_brService_eq_exec hi (consumeReport_byteDelivered hreport hq hrest)
  case ledsSet =>
    rw [exec_brService_eq_exec hi (consumeReport_commandDelivered hreport hq hrest), commandComplete_setLeds hkind]
    rfl
  case resetAcknowledged =>
    rw [exec_brService_eq_exec hi (consumeReport_commandDelivered hreport hq hrest), commandComplete_reset hkind]
    rfl
  case retry => exact exec_brService_eq_exec hi (consumeReport_retry hreport hleft)
  case giveUp =>
    rw [exec_brService_eq_exec hi (consumeReport_giveUp hreport hlast), emit_eq, raise_eq]
    rfl

/-- Settles O40: Indicator State is written at a full queue too, for only the queueing is guarded. -/
theorem setIndicatorsQueuesSetLeds : Obligations.SetIndicatorsQueuesSetLeds := by
  intro mask s
  rw [exec_brSetIndicators]
  refine ⟨fun hroom => ?queued, fun hfull => ?counted⟩
  case queued => rw [queueCommand_of_room _ hroom]; rfl
  case counted => rw [queueCommand_of_full _ hfull, raise_eq]; rfl

/-- Settles O41. -/
theorem brResetQueuesReset : Obligations.BrResetQueuesReset := by
  intro s
  rw [exec_brReset]
  refine ⟨fun hroom => ?queued, fun hfull => ?counted⟩
  case queued => rw [queueCommand_of_room _ hroom]; rfl
  case counted => rw [queueCommand_of_full _ hfull, raise_eq]; rfl

end Sys2Proof.Machine
end

section
/-! The Frame Queue (R220, R221): what `Q.PUSH` does with room and at a full queue, and what `Q.POP` does with a Frame
queued and with none. -/

namespace Sys2Proof.Machine

/-! ### Popping a Frame -/

theorem queuePop_of_empty {s : State} (hq : s.q = []) : queuePop s = (none, s) := by
  obtain ⟨_, hnone⟩ | ⟨_, _, hcons, _⟩ := queuePop_cases s
  · exact hnone
  · exact absurd (hq.symm.trans hcons) (List.cons_ne_nil _ _).symm

theorem queuePop_of_cons {s : State} {f : Frame} {rest : List Frame} (hq : s.q = f :: rest) :
    queuePop s = (some f, s.withQ rest) := by
  obtain ⟨hempty, _⟩ | ⟨g, gs, hcons, hpopped⟩ := queuePop_cases s
  · exact absurd (hq.symm.trans hempty) (List.cons_ne_nil _ _)
  · obtain ⟨rfl, rfl⟩ := List.cons.inj (hq.symm.trans hcons)
    exact hpopped

/-! ### The instructions of the queue -/

theorem exec_qPush (f : Frame) (s : State) : exec (.qPush f) s = .next (queuePush cfg f s) := rfl

theorem exec_qPop_of_empty {s : State} (hq : s.q = []) : exec .qPop s = .next s := by
  change execQPop s = _
  rw [execQPop, queuePop_of_empty hq]

/-- The oldest Frame is handed over in `ret` (R221, log 5). -/
theorem exec_qPop_of_cons {s : State} {f : Frame} {rest : List Frame} (hq : s.q = f :: rest) :
    exec .qPop s = .next ((s.withQ rest).withRet (.frame f)) := by
  change execQPop s = _
  rw [execQPop, queuePop_of_cons hq]

/-! ### The obligations -/

/-- Settles O46: the queue of the running configuration holds 16 Frames. -/
theorem pushAppendsOrDropsNewest : Obligations.PushAppendsOrDropsNewest := by
  intro f s
  rw [exec_qPush]
  refine ⟨fun hroom => ?appended, fun hfull => ?dropped⟩
  case appended => rw [queuePush_of_room (c := cfg) f hroom]; rfl
  case dropped => rw [queuePush_of_full (c := cfg) f hfull, raise_eq]; rfl

/-- Settles O47. -/
theorem popRemovesOldest : Obligations.PopRemovesOldest := by
  intro s
  refine ⟨fun f rest hq => ?popped, fun hq => ?unchanged⟩
  case popped => rw [exec_qPop_of_cons hq]; rfl
  case unchanged => exact exec_qPop_of_empty hq

end Sys2Proof.Machine
end

section
/-! The error primitive (R242): `raise` moves the one counter of its kind, up to the bound of its width, and no other
field. -/

namespace Sys2Proof.Machine

/-- The counter of the raised kind counts one up, to at most `2^CTR_WIDTH - 1`. -/
theorem Counters.get_bump_same (width : Nat) (e : Counters) (k : ErrorKind) :
    (e.bump width k).get k = min (e.get k + 1) (2 ^ width - 1) := by
  rw [Counters.get_bump, if_pos rfl, saturatingSucc]

theorem Counters.get_bump_other (width : Nat) (e : Counters) {k j : ErrorKind} (hne : j ≠ k) :
    (e.bump width k).get j = e.get j := by
  rw [Counters.get_bump, if_neg hne]

/-- Settles O3: the counters after `raise` are the old ones with that of the raised kind bumped. -/
theorem raiseCountsOneKindSaturating : Obligations.RaiseCountsOneKindSaturating := by
  intro c k s
  refine ⟨s.err.bump c.ctrWidth k, ?onlyErr, ?countsOne, fun j hne => ?othersKept⟩
  case onlyErr => exact raise_eq c k s
  case countsOne => exact Counters.get_bump_same c.ctrWidth s.err k
  case othersKept => exact Counters.get_bump_other c.ctrWidth s.err hne

end Sys2Proof.Machine
end

section
/-! Reset (R280): `SYS.RESET` leaves the reset state, in front of the inputs still to come. -/

namespace Sys2Proof.Machine

theorem exec_sysReset (s : State) : exec .sysReset s = .next (sysReset s) := rfl

/-- The old state enters by its inputs alone, which are the environment's and no field of `S` (log 24). -/
theorem sysReset_eq (s : State) : sysReset s = { State.reset with inputs := s.inputs } := by
  rw [sysReset, State.withInputs]

/-- Settles O2: `SYS.RESET` always completes, in the reset state with the old inputs. -/
theorem sysResetWritesEveryField : Obligations.SysResetWritesEveryField := by
  intro s
  rw [exec_sysReset, sysReset_eq]

end Sys2Proof.Machine
end

section
/-! The encodings of 30_encoding.md: the table rows and the words they are met in (R86, R92, R93), the frames and their
wire strings (R81 to R84), and the agreement of the decoder with the encoder both ways. -/

namespace Sys2Proof

open Machine

/-! ### Table rows -/

/-- A row of the opcode table is what the decoder's page answers for the row's code (R92, R93). -/
theorem lookupKey_of_keyRow {i : Instr} {r : KeyRow} (h : keyRow i = some r) :
    lookupKey (if r.ext then extendedKeys else plainKeys) r.code = some i := by
  cases i <;> simp only [keyRow, Option.some.injEq, reduceCtorEq] at h <;> subst h <;> rfl

/-- The prefix bytes have no row on either page (R86). -/
theorem keyRow_code_ne_prefix {i : Instr} {r : KeyRow} (h : keyRow i = some r) :
    r.code ≠ 0xE0#8 ∧ r.code ≠ 0xF0#8 := by
  obtain ⟨m, _, hmake⟩ := lookupKey_some (lookupKey_of_keyRow h)
  refine ⟨fun hE0 => ?_, fun hF0 => ?_⟩
  · rw [lookupMake_prefixByte (.inl hE0)] at hmake
    cases hmake
  · rw [lookupMake_prefixByte (.inr hF0)] at hmake
    cases hmake

theorem decodePayload_of_keyRow {i : Instr} {r : KeyRow} (h : keyRow i = some r) :
    decodePayload cfg r.ext r.code = .ok i := by
  obtain ⟨hE0, hF0⟩ := keyRow_code_ne_prefix h
  have hkey := lookupKey_of_keyRow h
  rw [decodePayload, if_neg hE0, if_neg hF0, hkey]
  simp [isEntryOf_cfg hkey]

/-- Everything the decoder accepts as a payload byte: a prefix byte on either page, or the row of its page and code, if
the core's table has that row (R86, R90, R94). -/
theorem decodePayload_ok_cases {c : Cfg} {ext : Bit} {b : Byte} {i : Instr} (h : decodePayload c ext b = .ok i) :
    (b = 0xE0#8 ∧ i = .prefixE0) ∨ (b = 0xF0#8 ∧ i = .prefixF0) ∨
    (b ≠ 0xE0#8 ∧ b ≠ 0xF0#8 ∧ ∃ m, keyRow i = some ⟨ext, b, m⟩ ∧ rowInTable c ⟨ext, b, m⟩ = true) := by
  unfold decodePayload at h
  split at h
  next hE0 => cases h; exact .inl ⟨hE0, rfl⟩
  next hE0 =>
    split at h
    next hF0 => cases h; exact .inr (.inl ⟨hF0, rfl⟩)
    next hF0 =>
      split at h
      next j hkey =>
        split at h
        next hentry =>
          cases h
          obtain ⟨m, hrow, _⟩ := lookupKey_some hkey
          simp only [isEntryOf, hrow] at hentry
          exact .inr (.inr ⟨hE0, hF0, m, hrow, hentry⟩)
        next => cases h
      next => cases h

/-- The word of a table row is its code on its page. -/
theorem encode_of_keyRow {c : Cfg} {i : Instr} {r : KeyRow} (h : keyRow i = some r) :
    encode c i = some (.payload r.ext r.code) := by
  unfold encode
  split
  iterate 8 next => cases h
  next => rw [h]; rfl

/-! ### Frames -/

theorem dataBits_byteOfBits : ∀ b0 b1 b2 b3 b4 b5 b6 b7 : Bit,
    dataBits (byteOfBits b0 b1 b2 b3 b4 b5 b6 b7) = [b0, b1, b2, b3, b4, b5, b6, b7] := by decide

/-- The decoder accepts no AT wire string but that of the byte it reads (R81, R82, R97). -/
theorem eq_atWire_of_decodeAtWire {wire : List Bit} {v : Byte} (h : decodeAtWire wire = .ok v) : wire = atWire v := by
  unfold decodeAtWire at h
  split at h
  next hlen =>
    match wire, hlen with
    | [b0, b1, b2, b3, b4, b5, b6, b7, b8, p, stop], _ =>
      have hbyte : byteAt [b0, b1, b2, b3, b4, b5, b6, b7, b8, p, stop] 1 = byteOfBits b1 b2 b3 b4 b5 b6 b7 b8 := rfl
      rw [hbyte] at h
      split at h
      next => cases h
      next hstart =>
        split at h
        next => cases h
        next hstop =>
          split at h
          next hparity =>
            cases h
            rw [atWire, dataBits_byteOfBits, ← hparity]
            simp_all
          next => cases h
  next => cases h

/-- The decoder accepts no XT wire string but those of the frame it reads (R83, R84). -/
theorem decodeXtWire_ok_cases {passes : List (Bit × Nat)} {wire : List Bit} {i : Instr}
    (h : decodeXtWire passes wire = .ok i) :
    (∃ v, wire = xtWire9 v ∧ i = .xtFrame9 v passes) ∨ (∃ v, wire = xtWire10 v ∧ i = .xtFrame10 v passes) := by
  unfold decodeXtWire at h
  split at h
  next hlen =>
    split at h
    next hlead =>
      cases h
      match wire, hlen with
      | [b0, b1, b2, b3, b4, b5, b6, b7, b8], _ =>
        refine .inl ⟨byteOfBits b1 b2 b3 b4 b5 b6 b7 b8, ?_, rfl⟩
        rw [xtWire9, dataBits_byteOfBits]
        simp_all
    next => cases h
  next =>
    split at h
    next hlen =>
      split at h
      next hlead =>
        cases h
        match wire, hlen with
        | [b0, b1, b2, b3, b4, b5, b6, b7, b8, b9], _ =>
          refine .inr ⟨byteOfBits b2 b3 b4 b5 b6 b7 b8 b9, ?_, rfl⟩
          rw [xtWire10, dataBits_byteOfBits]
          simp_all
      next => cases h
    next => cases h

/-- The word of the instruction a wire string decodes to is the wire string. -/
theorem encode_of_decodeFrame {fmt : FrameFormat} {wire : List Bit} {sch : Schedule} {i : Instr}
    (h : decodeFrame fmt wire sch = .ok i) : encode cfg i = some (.frame fmt wire) := by
  unfold decodeFrame at h
  split at h
  next =>
    split at h
    next v hwire => cases h; rw [eq_atWire_of_decodeAtWire hwire]; rfl
    next => cases h
  next =>
    split at h
    next v hwire => cases h; rw [eq_atWire_of_decodeAtWire hwire]; rfl
    next => cases h
  next =>
    obtain ⟨v, rfl, rfl⟩ | ⟨v, rfl, rfl⟩ := decodeXtWire_ok_cases h
    · rfl
    · rfl

/-! ### Command bytes -/

/-- Everything the decoder accepts as a command byte (R89). -/
theorem decodeCommand_ok_cases {c : Cfg} {b : Byte} {i : Instr} (h : decodeCommand c b = .ok i) :
    (b = c.cmdSetLeds ∧ i = .cmdSetLeds) ∨ (b = c.cmdReset ∧ i = .cmdReset) := by
  unfold decodeCommand at h
  split at h
  next hleds => cases h; exact .inl ⟨hleds, rfl⟩
  next =>
    split at h
    next hreset => cases h; exact .inr ⟨hreset, rfl⟩
    next => cases h

/-! ### Parity -/

/-- The exclusive-or of a list of bits says whether it holds an odd number of ones. -/
theorem odd_ones_iff (bits : List Bit) : (bits.filter id).length % 2 = 1 ↔ bits.foldr (· ^^ ·) false = true := by
  induction bits with
  | nil => simp
  | cons b bits ih =>
    cases b with
    | false => simpa using ih
    | true =>
      have hflip : (bits.filter id).length % 2 ≠ 1 ↔ bits.foldr (· ^^ ·) false = false := by
        rw [ne_eq, ih, Bool.not_eq_true]
      simp [← hflip]
      omega

/-- The parity bit makes the exclusive-or of the nine bits 1 (R85). -/
theorem xor_dataBits_parity (v : Byte) : (dataBits v ++ [oddParity v]).foldr (· ^^ ·) false = true := by
  simp only [dataBits, oddParity, xorBits, List.cons_append, List.nil_append, List.foldr_cons, List.foldr_nil]
  generalize v.getLsbD 0 = b0, v.getLsbD 1 = b1, v.getLsbD 2 = b2, v.getLsbD 3 = b3, v.getLsbD 4 = b4,
    v.getLsbD 5 = b5, v.getLsbD 6 = b6, v.getLsbD 7 = b7
  revert b0 b1 b2 b3 b4 b5 b6 b7
  decide

/-! ### The obligations -/

/-- Settles O56: a table row is read back from its page (`decodePayload_of_keyRow`); every other word is that of one
instruction, which the family `Laws.DecodeEncode` reads back. -/
theorem decodeOfEncode : Obligations.DecodeOfEncode := by
  intro i w h
  have hword := h
  unfold encode at h
  split at h
  next v times => exact Laws.DecodeEncode.atRxFrame v times w hword
  next v tReq tRel edges => exact Laws.DecodeEncode.atTxFrame v tReq tRel edges w hword
  next v passes => exact Laws.DecodeEncode.xtFrame9 v passes w hword
  next v passes => exact Laws.DecodeEncode.xtFrame10 v passes w hword
  next => exact Laws.DecodeEncode.prefixE0 w hword
  next => exact Laws.DecodeEncode.prefixF0 w hword
  next => exact Laws.DecodeEncode.cmdSetLeds w hword
  next => exact Laws.DecodeEncode.cmdReset w hword
  next =>
    obtain ⟨r, hrow, rfl⟩ := Option.map_eq_some_iff.mp h
    exact decodePayload_of_keyRow hrow

/-- Settles O57: what each decoder accepts is the word of what it reads; a prefix byte alone is read on both pages and
written on the plain one. -/
theorem encodeOfDecode : Obligations.EncodeOfDecode := by
  intro w sch i h
  cases w with
  | payload ext b =>
    obtain ⟨rfl, rfl⟩ | ⟨rfl, rfl⟩ | ⟨_, _, m, hrow, _⟩ := decodePayload_ok_cases h
    · exact .inr ⟨ext, _, rfl, rfl, rfl⟩
    · exact .inr ⟨ext, _, rfl, rfl, rfl⟩
    · exact .inl (encode_of_keyRow hrow)
  | command b =>
    obtain ⟨rfl, rfl⟩ | ⟨rfl, rfl⟩ := decodeCommand_ok_cases h
    · exact .inl rfl
    · exact .inl rfl
  | frame fmt wire => exact .inl (encode_of_decodeFrame h)

/-- Settles O36: the rows are entries of this core's table (`rowInTable_cfg`), and where the decoder's page has no row
the table has no entry (`lookupKey_none`). -/
theorem tableHoldsExactlyTheEntries : Obligations.TableHoldsExactlyTheEntries := by
  refine ⟨fun i r hrow => ?rowsAreEntries, fun ext brk b xs hxlat => ?entriesAreRows⟩
  case rowsAreEntries => simpa [rowInTable, breakOf] using rowInTable_cfg hrow
  case entriesAreRows =>
    obtain ⟨m, hmake, _⟩ := defaultXlat_eq_some_iff.mp hxlat
    cases hkey : lookupKey (if ext then extendedKeys else plainKeys) b with
    | none => rw [lookupKey_none hkey] at hmake; cases hmake
    | some i =>
      obtain ⟨n, hrow, _⟩ := lookupKey_some hkey
      exact ⟨i, ⟨ext, b, n⟩, hrow, rfl, rfl⟩

/-- Settles O54: the parity bit makes the exclusive-or of the nine bits 1, which is an odd number of ones. -/
theorem parityMakesOddOnes : Obligations.ParityMakesOddOnes := fun v =>
  (odd_ones_iff _).mpr (xor_dataBits_parity v)

/-- Settles O55: each word is decoded by computation. -/
theorem specWordsDecode : Obligations.SpecWordsDecode := by
  refine ⟨?_, ?_, ?_, ?_, ?_, ?_, ?_, ?_, ?_⟩ <;> decide

end Sys2Proof
end

section
/-! The decoded payload and the Translation State (R190, R195): what the operation a payload byte selects does, in a core
of any build, and what a list of prefixes before an entry makes of the mode bits. -/

namespace Sys2Proof.Machine

/-! ### Table entries -/

theorem keyEntry_onPage {ext : Bit} {make : Byte} {s : State} (h : s.tr.ext = ext) :
    keyEntry ext make s =
      .next ((clearModeBits s).withRet (.bytes [if s.tr.brk then breakOf make else make])) := by
  rw [keyEntry, if_pos h]
  rfl

theorem keyEntry_otherPage {ext : Bit} {make : Byte} {s : State} (h : s.tr.ext ≠ ext) :
    keyEntry ext make s = .next s := by
  rw [keyEntry, if_neg h]

/-! ### The operation `translate` selects -/

theorem rowInTable_iff {c : Cfg} {r : KeyRow} : rowInTable c r = true ↔
    c.xlat r.ext false r.code = some [r.make] ∧ c.xlat r.ext true r.code = some [breakOf r.make] := by
  simp [rowInTable]

/-- A row of the core's table answers its make byte, or its break byte when a break is pending. -/
theorem xlat_of_rowInTable {c : Cfg} {r : KeyRow} (h : rowInTable c r = true) (brk : Bit) :
    c.xlat r.ext brk r.code = some [if brk then breakOf r.make else r.make] := by
  obtain ⟨hmake, hbreak⟩ := rowInTable_iff.mp h
  cases brk
  · exact hmake
  · exact hbreak

section
variable {c : Cfg} {b : Byte} {s : State}

/-- A data byte with an entry is put out by the table's answer, the Indicator State kept (R193). -/
theorem translate_entry {xs : List Byte} (hE0 : b ≠ 0xE0#8) (hF0 : b ≠ 0xF0#8)
    (hxlat : c.xlat s.tr.ext s.tr.brk b = some xs) : translate c b s = (xs, clearModeBits s) := by
  rw [translate, if_neg hE0, if_neg hF0, hxlat]
  rfl

theorem translate_noEntry (hE0 : b ≠ 0xE0#8) (hF0 : b ≠ 0xF0#8) (hxlat : c.xlat s.tr.ext s.tr.brk b = none) :
    translate c b s = ([], clearModeBits (raise c .unknownScanCode s)) := by
  rw [translate, if_neg hE0, if_neg hF0, hxlat]
  rfl

/-- A row of the table does what `translate` says of its code (R190, R193). -/
theorem execFor_row {i : Instr} {m : Byte} (hE0 : b ≠ 0xE0#8) (hF0 : b ≠ 0xF0#8)
    (hrow : keyRow i = some ⟨s.tr.ext, b, m⟩) (hentry : rowInTable c ⟨s.tr.ext, b, m⟩ = true) :
    execFor c i s = returning (translate c b s) := by
  rw [execFor, hrow]
  dsimp only
  rw [if_pos hentry, exec_key i _ s hrow, keyEntry_onPage rfl,
    translate_entry hE0 hF0 (xlat_of_rowInTable hentry s.tr.brk)]
  rfl

/-- What the decoder selects does what `translate` says: a prefix byte and a row by their own meaning, any other byte by
the operation of the table's answer (R190). -/
theorem execFor_selectTranslation (c : Cfg) (b : Byte) (s : State) :
    execFor c (selectTranslation c s.tr b) s = returning (translate c b s) := by
  cases hd : decodePayload c s.tr.ext b with
  | ok i =>
    rw [selectTranslation, hd]
    obtain ⟨rfl, rfl⟩ | ⟨rfl, rfl⟩ | ⟨hE0, hF0, m, hrow, hentry⟩ := decodePayload_ok_cases hd
    · rfl
    · rfl
    · exact execFor_row hE0 hF0 hrow hentry
  | error e =>
    have hE0 : b ≠ 0xE0#8 := by rintro rfl; cases hd
    have hF0 : b ≠ 0xF0#8 := by rintro rfl; cases hd
    have hdata : isPrefixByte b = false := isPrefixByte_eq_false_iff.mpr ⟨hE0, hF0⟩
    rw [selectTranslation, hd]
    dsimp only
    cases hxlat : c.xlat s.tr.ext s.tr.brk b with
    | some xs =>
      rw [translate_entry hE0 hF0 hxlat]
      exact runXlData_answered hdata hxlat
    | none =>
      rw [translate_noEntry hE0 hF0 hxlat]
      exact runXlUnknown_noEntry hdata hxlat

end

theorem exec_selectTranslation (b : Byte) (s : State) :
    exec (selectTranslation cfg s.tr b) s = returning (translate cfg b s) := by
  rw [← execFor_cfg, execFor_selectTranslation]

/-! ### Prefixes before an entry -/

/-- The next instruction of a sequence, run where the one before has ended. -/
def runNext (o : Host.Outcome State Fault Refusal) (j : Instr) : Host.Outcome State Fault Refusal :=
  match o with
  | .next u => exec j u
  | .fault f => .fault f
  | .refused e => .refused e

/-- After a list of prefixes each mode bit is set if it was, or if its prefix is in the list; only the two bits and the
returned value have changed (R191, R192). -/
theorem foldl_prefixes (prefixes : List Instr) : ∀ s : State, (∀ j ∈ prefixes, j = .prefixE0 ∨ j = .prefixF0) →
    ∃ ext brk ret, prefixes.foldl runNext (.next s) = .next ((s.withTr ⟨ext, brk, s.tr.ind⟩).withRet ret) ∧
      (ext = true ↔ s.tr.ext = true ∨ .prefixE0 ∈ prefixes) ∧
      (brk = true ↔ s.tr.brk = true ∨ .prefixF0 ∈ prefixes) := by
  induction prefixes with
  | nil => exact fun s _ => ⟨s.tr.ext, s.tr.brk, s.ret, rfl, by simp, by simp⟩
  | cons j prefixes ih =>
    intro s hprefix
    obtain ⟨hj, hrest⟩ := List.forall_mem_cons.mp hprefix
    obtain rfl | rfl := hj
    · obtain ⟨ext, brk, ret, hrun, hext, hbrk⟩ := ih ((s.withTr { s.tr with ext := true }).withRet (.bytes [])) hrest
      exact ⟨ext, brk, ret, hrun, by simpa using hext, by simpa using hbrk⟩
    · obtain ⟨ext, brk, ret, hrun, hext, hbrk⟩ := ih ((s.withTr { s.tr with brk := true }).withRet (.bytes [])) hrest
      exact ⟨ext, brk, ret, hrun, by simpa using hext, by simpa using hbrk⟩

/-! ### The obligations -/

/-- Settles O35: every entry is `keyEntry` of its row. -/
theorem keyEntriesReturnMakeOrBreak : Obligations.KeyEntriesReturnMakeOrBreak := by
  intro i r s hrow
  rw [exec_key i r s hrow]
  refine ⟨fun hpage => ?onPage, fun hpage => keyEntry_otherPage hpage⟩
  case onPage => rw [keyEntry_onPage hpage, clearModeBits_eq]; rfl

/-- Settles O38: in every build by `execFor_selectTranslation`, and the machine is one of the builds. -/
theorem decodedPayloadDoesWhatTranslateSays : Obligations.DecodedPayloadDoesWhatTranslateSays := fun b s =>
  ⟨exec_selectTranslation b s, fun c => execFor_selectTranslation c b s⟩

/-- Settles O39: the prefixes leave the page of the entry and a pending break exactly if one is an 0xF0; the entry then
clears both bits. -/
theorem breakSequencesReturnBit7 : Obligations.BreakSequencesReturnBit7 := by
  intro i r prefixes s hrow hext hbrk hprefix hpage
  obtain ⟨ext, brk, ret, hrun, hext', hbrk'⟩ := foldl_prefixes prefixes s hprefix
  simp only [hext, hbrk, Bool.false_eq_true, false_or] at hext' hbrk'
  have honPage : ext = r.ext := Bool.eq_iff_iff.mpr (hext'.trans hpage)
  have htr : s.tr = ⟨false, false, s.tr.ind⟩ := calc
    s.tr = ⟨s.tr.ext, s.tr.brk, s.tr.ind⟩ := rfl
    _ = ⟨false, false, s.tr.ind⟩ := by rw [hext, hbrk]
  have hkey : (prefixes ++ [i]).foldl runNext (.next s) =
      .next { s with ret := .bytes [if brk then breakOf r.make else r.make] } := by
    rw [List.foldl_append, hrun]
    change exec i _ = _
    rw [exec_key i r _ hrow, keyEntry_onPage (by simpa using honPage), clearModeBits_eq]
    simp only [State.withRet_tr, State.withTr_tr, ← htr]
    rfl
  refine ⟨if brk then breakOf r.make else r.make, hkey, fun hF0 => ?_, fun hF0 => ?_⟩
  · rw [if_pos (hbrk'.mpr hF0), breakOf]
  · rw [if_neg (mt hbrk'.mp hF0)]

end Sys2Proof.Machine
end

section
/-! What the operations keep: no operation but a reset lowers a counter (R34, R242) or touches the inputs; none that a
handler or a pass runs touches the place of the pass, the returned value or `at_clk_prev`; and the handler of an AT edge
leaves the XT side, the translator and the command queue alone (R250). -/

namespace Sys2Proof.Machine

/-! ### The counters -/

/-- No counter that is in the range of R34 goes down, and none leaves the range. -/
def Counters.GrowsTo (e f : Counters) : Prop :=
  ∀ k, e.get k < 2 ^ cfg.ctrWidth → e.get k ≤ f.get k ∧ f.get k < 2 ^ cfg.ctrWidth

theorem Counters.GrowsTo.refl (e : Counters) : e.GrowsTo e := fun _ hfit => ⟨le_rfl, hfit⟩

theorem Counters.GrowsTo.trans {e f g : Counters} (hef : e.GrowsTo f) (hfg : f.GrowsTo g) : e.GrowsTo g := by
  intro k hfit
  obtain ⟨hle, hfit'⟩ := hef k hfit
  obtain ⟨hle', hfit''⟩ := hfg k hfit'
  exact ⟨hle.trans hle', hfit''⟩

/-- `raise` moves one counter up, within its range (R242). -/
theorem Counters.growsTo_bump (e : Counters) (k : ErrorKind) : e.GrowsTo (e.bump cfg.ctrWidth k) := by
  intro j hfit
  rw [Counters.get_bump]
  split
  · exact ⟨le_saturatingSucc hfit, saturatingSucc_lt _ _⟩
  · exact ⟨le_rfl, hfit⟩

/-! ### What every operation but a reset keeps -/

/-- `t` can follow `s` without a reset: the inputs are untouched and no counter goes down. -/
structure State.Advances (s t : State) : Prop where
  inputs : t.inputs = s.inputs
  counters : s.err.GrowsTo t.err

theorem State.Advances.trans {s t u : State} (hst : s.Advances t) (htu : t.Advances u) : s.Advances u :=
  ⟨htu.inputs.trans hst.inputs, hst.counters.trans htu.counters⟩

/-- What an operation does not touch that returns nothing and is no tick: the model's own fields and `at_clk_prev`. -/
structure State.Keeps (s t : State) : Prop extends s.Advances t where
  pass : t.pass = s.pass
  ret : t.ret = s.ret
  atClkPrev : t.atClkPrev = s.atClkPrev

/-- An operation that counts nothing keeps what it does not write. -/
theorem State.Keeps.same {s t : State} (herr : t.err = s.err := by rfl) (hinputs : t.inputs = s.inputs := by rfl)
    (hpass : t.pass = s.pass := by rfl) (hret : t.ret = s.ret := by rfl)
    (hprev : t.atClkPrev = s.atClkPrev := by rfl) : s.Keeps t :=
  ⟨⟨hinputs, herr ▸ Counters.GrowsTo.refl _⟩, hpass, hret, hprev⟩

/-- So does an operation that counts one error. -/
theorem State.Keeps.counted {s t : State} (k : ErrorKind) (herr : t.err = s.err.bump cfg.ctrWidth k := by rfl)
    (hinputs : t.inputs = s.inputs := by rfl) (hpass : t.pass = s.pass := by rfl) (hret : t.ret = s.ret := by rfl)
    (hprev : t.atClkPrev = s.atClkPrev := by rfl) : s.Keeps t :=
  ⟨⟨hinputs, herr ▸ Counters.growsTo_bump _ k⟩, hpass, hret, hprev⟩

theorem State.Keeps.refl (s : State) : s.Keeps s := .same

theorem State.Keeps.trans {s t u : State} (hst : s.Keeps t) (htu : t.Keeps u) : s.Keeps u :=
  ⟨hst.toAdvances.trans htu.toAdvances, htu.pass.trans hst.pass, htu.ret.trans hst.ret,
    htu.atClkPrev.trans hst.atClkPrev⟩

/-! ### The handler of an AT edge -/

/-- What the handler of an AT edge does not touch (the table of R250): the XT side, the translator, the command queue
with its attempts, and the counters that are not the receiver's or the queue's; nor does it put the loop to sleep. -/
structure State.EdgeKeeps (s t : State) : Prop extends s.Keeps t where
  asleep : s.asleep = false → t.asleep = false
  xtBus : t.xtBus = s.xtBus
  tr : t.tr = s.tr
  xtPending : t.xtPending = s.xtPending
  cmdQ : t.cmdQ = s.cmdQ
  cmdAttempts : t.cmdAttempts = s.cmdAttempts
  kbdUnresponsive : t.kbdUnresponsive = s.kbdUnresponsive
  unknownScanCode : t.err.unknownScanCode = s.err.unknownScanCode
  transmitInhibitedExceeded : t.err.transmitInhibitedExceeded = s.err.transmitInhibitedExceeded
  commandDeliveryFailed : t.err.commandDeliveryFailed = s.err.commandDeliveryFailed
  xtClkOut : t.pins.xtClkOut = s.pins.xtClkOut
  xtDataOut : t.pins.xtDataOut = s.pins.xtDataOut

theorem State.EdgeKeeps.refl (s : State) : s.EdgeKeeps s :=
  ⟨.refl s, id, rfl, rfl, rfl, rfl, rfl, rfl, rfl, rfl, rfl, rfl, rfl⟩

theorem State.EdgeKeeps.trans {s t u : State} (hst : s.EdgeKeeps t) (htu : t.EdgeKeeps u) : s.EdgeKeeps u where
  toKeeps := hst.toKeeps.trans htu.toKeeps
  asleep := fun hawake => htu.asleep (hst.asleep hawake)
  xtBus := htu.xtBus.trans hst.xtBus
  tr := htu.tr.trans hst.tr
  xtPending := htu.xtPending.trans hst.xtPending
  cmdQ := htu.cmdQ.trans hst.cmdQ
  cmdAttempts := htu.cmdAttempts.trans hst.cmdAttempts
  kbdUnresponsive := htu.kbdUnresponsive.trans hst.kbdUnresponsive
  unknownScanCode := htu.unknownScanCode.trans hst.unknownScanCode
  transmitInhibitedExceeded := htu.transmitInhibitedExceeded.trans hst.transmitInhibitedExceeded
  commandDeliveryFailed := htu.commandDeliveryFailed.trans hst.commandDeliveryFailed
  xtClkOut := htu.xtClkOut.trans hst.xtClkOut
  xtDataOut := htu.xtDataOut.trans hst.xtDataOut

section
variable (s : State) (data : Bit) (ts : Nat)

theorem edgeKeeps_wakes : s.EdgeKeeps (s.withAsleep false) :=
  ⟨.same, fun _ => rfl, rfl, rfl, rfl, rfl, rfl, rfl, rfl, rfl, rfl, rfl, rfl⟩

theorem edgeKeeps_withAt (x : AtLink) : s.EdgeKeeps (s.withAt x) :=
  ⟨.same, id, rfl, rfl, rfl, rfl, rfl, rfl, rfl, rfl, rfl, rfl, rfl⟩

theorem edgeKeeps_linkResetAt : s.EdgeKeeps (linkResetAt s) := edgeKeeps_withAt s _

theorem keeps_raise (k : ErrorKind) : s.Keeps (raise cfg k s) := .counted k

/-- The error kinds of the receiver, the transmitter and the Frame Queue are those of R250. -/
theorem edgeKeeps_raise (k : ErrorKind) (hk : k = .framing ∨ k = .parity ∨ k = .timeout ∨ k = .queueOverflow) :
    s.EdgeKeeps (raise cfg k s) := by
  obtain rfl | rfl | rfl | rfl := hk <;>
    exact ⟨keeps_raise s _, id, rfl, rfl, rfl, rfl, rfl, rfl, rfl, rfl, rfl, rfl, rfl⟩

theorem edgeKeeps_queuePush (f : Frame) : s.EdgeKeeps (queuePush cfg f s) := by
  obtain ⟨_, e⟩ | ⟨_, e⟩ := queuePush_cases cfg f s <;> rw [e]
  · exact ⟨.same, id, rfl, rfl, rfl, rfl, rfl, rfl, rfl, rfl, rfl, rfl, rfl⟩
  · exact edgeKeeps_raise s _ (by simp)

theorem edgeKeeps_rxStart : s.EdgeKeeps (rxStart cfg data ts s) := by
  obtain ⟨_, e⟩ | ⟨_, _, e⟩ | ⟨_, _, e⟩ := rxStart_cases cfg data ts s <;> rw [e]
  · exact .refl s
  · exact edgeKeeps_raise s _ (by simp)
  · exact edgeKeeps_withAt s _

theorem edgeKeeps_rxData (i : Fin 8) : s.EdgeKeeps (rxData cfg i data ts s) := by
  obtain ⟨_, e⟩ | ⟨_, _, e⟩ := rxData_cases cfg i data ts s <;> rw [e]
  · exact .refl s
  · exact edgeKeeps_withAt s _

theorem edgeKeeps_rxParity : s.EdgeKeeps (rxParity cfg data ts s) := by
  obtain ⟨_, e⟩ | ⟨_, _, e⟩ := rxParity_cases cfg data ts s <;> rw [e]
  · exact .refl s
  · exact edgeKeeps_withAt s _

theorem edgeKeeps_rxStop : s.EdgeKeeps (rxStop cfg data ts s) := by
  obtain ⟨_, e⟩ | ⟨_, _, ⟨_, e⟩ | ⟨_, _, e⟩ | ⟨_, _, e⟩⟩ := rxStop_cases cfg data ts s <;> rw [e]
  · exact .refl s
  · exact (edgeKeeps_raise s _ (by simp)).trans (edgeKeeps_linkResetAt _)
  · exact (edgeKeeps_raise s _ (by simp)).trans (edgeKeeps_linkResetAt _)
  · exact (edgeKeeps_queuePush s _).trans (edgeKeeps_linkResetAt _)

theorem edgeKeeps_rxTimeout : s.EdgeKeeps (rxTimeout cfg ts s) := by
  obtain ⟨_, e⟩ | ⟨_, _, e⟩ := rxTimeout_cases cfg ts s <;> rw [e]
  · exact .refl s
  · exact (edgeKeeps_raise s _ (by simp)).trans (edgeKeeps_linkResetAt _)

theorem edgeKeeps_txBit (i : Fin 10) : s.EdgeKeeps (txBit cfg i ts s) := by
  obtain ⟨_, e⟩ | ⟨_, _, e⟩ := txBit_cases cfg i ts s <;> rw [e]
  · exact .refl s
  · exact ⟨.same, id, rfl, rfl, rfl, rfl, rfl, rfl, rfl, rfl, rfl, rfl, rfl⟩

theorem edgeKeeps_txAck : s.EdgeKeeps (txAck data ts s) := by
  obtain ⟨_, e⟩ | ⟨_, _, e⟩ := txAck_cases data ts s <;> rw [e]
  · exact .refl s
  · exact ⟨.same, id, rfl, rfl, rfl, rfl, rfl, rfl, rfl, rfl, rfl, rfl, rfl⟩

theorem edgeKeeps_txTimeout : s.EdgeKeeps (txTimeout cfg ts s) := by
  obtain ⟨_, e⟩ | ⟨_, _, e⟩ := txTimeout_cases cfg ts s <;> rw [e]
  · exact .refl s
  · exact ⟨.counted .timeout, id, rfl, rfl, rfl, rfl, rfl, rfl, rfl, rfl, rfl, rfl, rfl⟩

theorem edgeKeeps_edgeByTag : s.EdgeKeeps (edgeByTag cfg data ts s) := by
  obtain e | ⟨i, e⟩ | e | e | e | ⟨i, e⟩ | e := edgeByTag_cases cfg data ts s <;> rw [e]
  · exact edgeKeeps_rxStart s data ts
  · exact edgeKeeps_rxData s data ts i
  · exact edgeKeeps_rxParity s data ts
  · exact edgeKeeps_rxStop s data ts
  · exact .refl s
  · exact edgeKeeps_txBit s ts i
  · exact edgeKeeps_txAck s data ts

theorem edgeKeeps_onEdge (level : Bit) : s.EdgeKeeps (onEdge cfg level data ts s) := by
  have hwake := edgeKeeps_wakes s
  obtain e | e | e | e | e := onEdge_cases cfg level data ts s <;> rw [e]
  · exact hwake
  · exact hwake.trans (edgeKeeps_edgeByTag _ data ts)
  · exact hwake.trans (edgeKeeps_rxTimeout _ ts)
  · exact (hwake.trans (edgeKeeps_rxTimeout _ ts)).trans (edgeKeeps_edgeByTag _ data ts)
  · exact hwake.trans (edgeKeeps_txTimeout _ ts)

/-! ### The operations of a pass, the host requests and the transfers -/

theorem keeps_txRequest (atClk : Bit) : s.Keeps (txRequest cfg atClk ts s) := by
  obtain e | ⟨_, _, _, _, _, _, e⟩ := txRequest_cases cfg atClk ts s <;> rw [e] <;> exact .same

theorem keeps_txRelease : s.Keeps (txRelease cfg ts s) := by
  obtain ⟨_, e⟩ | ⟨_, _, e⟩ := txRelease_cases cfg ts s <;> rw [e] <;> exact .same

theorem keeps_xtLoad (b : Byte) : s.Keeps (xtLoad b s) := by
  obtain ⟨_, e⟩ | ⟨_, e⟩ := xtLoad_cases b s <;> rw [e] <;> exact .same

theorem keeps_emit (o : Output) : s.Keeps (emit o s) := .same

theorem keeps_withXt (x : XtLink) : s.Keeps (s.withXt x) := .same

theorem keeps_sendBitXt (b : Bit) : s.Keeps (sendBitXt b s) := .same

theorem keeps_xtRelease : s.Keeps (xtRelease s) := .same

theorem keeps_xtStep (xtClk : Bit) : s.Keeps (xtStep cfg xtClk ts s) := by
  obtain ⟨_, e⟩ | ⟨p, _, ⟨_, _, e⟩ | ⟨_, _, _, _, e⟩ | ⟨_, _, _, _, e⟩ | ⟨_, _, e⟩ | ⟨_, _, _, e⟩ | ⟨_, _, _, e⟩⟩ :=
    xtStep_cases cfg xtClk ts s <;> rw [e]
  · exact .refl s
  · exact keeps_withXt s _
  · exact .refl s
  · exact ((keeps_raise s _).trans (keeps_xtRelease _)).trans (keeps_emit _ _)
  · exact keeps_withXt s _
  · exact (keeps_sendBitXt s _).trans (keeps_withXt _ _)
  · exact (((keeps_sendBitXt s _).trans (keeps_withXt _ _)).trans (keeps_xtRelease _)).trans (keeps_emit _ _)

theorem keeps_queueCommand (k : Command) : s.Keeps (queueCommand cfg k s) := by
  obtain ⟨_, e⟩ | ⟨_, e⟩ := queueCommand_cases cfg k s <;> rw [e]
  · exact .same
  · exact .counted .commandDeliveryFailed

theorem keeps_brSetIndicators (mask : Byte) : s.Keeps (brSetIndicators cfg mask s) :=
  State.Keeps.trans .same (keeps_queueCommand _ _)

theorem keeps_brReset : s.Keeps (brReset cfg s) := State.Keeps.trans .same (keeps_queueCommand (s.withAsleep false) _)

theorem keeps_queueSetLeds : s.Keeps (queueSetLeds cfg s) :=
  State.Keeps.trans .same (keeps_queueCommand (s.withAsleep false) _)

theorem keeps_commandComplete (k : Command) (ks : List Command) : s.Keeps (commandComplete k ks s) := by
  cases hkind : k.kind with
  | setLeds => rw [commandComplete_setLeds hkind]; exact .same
  | reset => rw [commandComplete_reset hkind]; exact .same

theorem keeps_advanceTransmitter (atClk : Bit) : s.Keeps (advanceTransmitter cfg atClk ts s) := by
  obtain ⟨_, e⟩ | ⟨_, e⟩ := advanceTransmitter_cases cfg atClk ts s <;> rw [e]
  · exact keeps_txRelease s ts
  · exact keeps_txRequest s ts atClk

theorem keeps_pollDeadline : s.Keeps (pollDeadline cfg ts s) := by
  obtain e | e | e := pollDeadline_cases cfg ts s <;> rw [e]
  · exact .refl s
  · exact (edgeKeeps_rxTimeout s ts).toKeeps
  · exact (edgeKeeps_txTimeout s ts).toKeeps

theorem keeps_translate (b : Byte) : s.Keeps (translate cfg b s).2 := by
  obtain ⟨_, e⟩ | ⟨_, e⟩ | ⟨_, _, _, e⟩ | ⟨_, _, e⟩ := translate_cases cfg b s <;> rw [e]
  case inr.inr.inr => exact .counted .unknownScanCode
  all_goals exact .same

theorem keeps_popAndTranslate : s.Keeps (popAndTranslate cfg s) := by
  obtain e | ⟨f, rest, _, _, _, e⟩ := popAndTranslate_cases cfg s <;> rw [e]
  · exact .refl s
  · exact State.Keeps.trans .same ((keeps_translate (s.withQ rest) f.payload).trans .same)

theorem keeps_loadPending : s.Keeps (loadPending s) := by
  obtain e | ⟨b, rest, _, _, e⟩ := loadPending_cases s <;> rw [e]
  · exact .refl s
  · exact (keeps_xtLoad s b).trans .same

end

section
variable {s t : State} {atClk atData xtClk : Bit} {ts : Nat}

theorem keeps_consumeReport (h : consumeReport cfg s = some t) : s.Keeps t := by
  obtain ⟨_, rfl⟩ | ⟨k, ks, _, _, _, rfl⟩ | ⟨k, ks, b, bs, _, _, _, rfl⟩ | ⟨_, _, rfl⟩ | ⟨_, _, rfl⟩ :=
    consumeReport_cases cfg s t h
  case inr.inl => exact State.Keeps.trans .same (keeps_commandComplete _ k ks)
  case inr.inr.inr.inl => exact .counted .commandDeliveryFailed
  all_goals exact .same

theorem keeps_brService (h : brService cfg atClk ts s = some t) : s.Keeps t := by
  obtain ⟨u, hu, rfl⟩ := Option.map_eq_some_iff.mp h
  exact (keeps_consumeReport hu).trans (keeps_advanceTransmitter u ts atClk)

theorem keeps_dispatchPass (h : dispatchPass cfg atClk atData xtClk ts s = some t) : s.Keeps t := by
  unfold dispatchPass at h
  split at h
  · cases h
    exact .refl s
  · obtain ⟨u, hu, rfl⟩ := Option.map_eq_some_iff.mp h
    exact ((((keeps_pollDeadline s ts).trans (keeps_popAndTranslate _)).trans (keeps_loadPending _)).trans
      (keeps_xtStep _ ts xtClk)).trans ((keeps_brService hu).trans .same)

theorem keeps_fallingEdges (edges : List (Bit × Nat)) : ∀ s : State, s.Keeps (fallingEdges cfg edges s) := by
  induction edges with
  | nil => exact .refl
  | cons e edges ih => exact fun s => (edgeKeeps_onEdge s _ _ _).toKeeps.trans (ih _)

theorem keeps_xtPasses (passes : List (Bit × Nat)) : ∀ s : State, s.Keeps (xtPasses cfg passes s) := by
  induction passes with
  | nil => exact .refl
  | cons p passes ih => exact fun s => (keeps_xtStep s _ _).trans (ih _)

theorem keeps_sendFrame (v : Byte) (tReq tRel : Nat) (edges : List (Bit × Nat)) :
    s.Keeps (sendFrame cfg v tReq tRel edges s) := by
  unfold sendFrame
  split
  · exact ((keeps_txRequest s tReq true).trans (keeps_txRelease _ tRel)).trans (keeps_fallingEdges edges _)
  · exact .refl s

theorem keeps_transmitFrame (n : XtFrameBits) (v : Byte) (passes : List (Bit × Nat)) :
    s.Keeps (transmitFrame cfg n v passes s) := by
  unfold transmitFrame
  split
  · exact (keeps_xtLoad s v).trans (keeps_xtPasses passes _)
  · exact .refl s

end

/-! ### The instructions -/

/-- The sampling half of a tick writes `at_clk_prev` and otherwise keeps what the edge handler keeps (R113). -/
theorem sampleEdge_keeps (atClk atData : Bit) (ts : Nat) (s : State) :
    ∃ u, s.Keeps u ∧ sampleEdge cfg atClk atData ts s = u.withAtClkPrev atClk := by
  unfold sampleEdge
  dsimp only
  split
  · exact ⟨_, (edgeKeeps_onEdge s atData ts false).toKeeps, by rw [onEdge_withAsleep]⟩
  · exact ⟨s.withAsleep false, .same, rfl⟩

theorem advances_tickSample {atClk atData xtClk : Bit} {ts : Nat} {s t : State}
    (h : tickSample cfg atClk atData xtClk ts s = some t) : s.Advances t := by
  unfold tickSample at h
  split at h
  · obtain ⟨u, hkeep, hsample⟩ := sampleEdge_keeps atClk atData ts s
    rw [hsample] at h
    exact hkeep.toAdvances.trans ⟨(keeps_dispatchPass h).inputs, (keeps_dispatchPass h).counters⟩
  · cases h
    exact (State.Keeps.refl s).toAdvances

/-- An operation that returns a value writes it to `ret` and keeps what it keeps without it. -/
theorem State.Keeps.advances_withRet {s t : State} (h : s.Keeps t) (r : Returned) : s.Advances (t.withRet r) :=
  ⟨h.inputs, h.counters⟩

theorem advances_returning {s u : State} {xs : List Byte} {t : State} (h : s.Keeps u)
    (hrun : returning (xs, u) = .next t) : s.Advances t := by
  cases hrun
  exact h.advances_withRet _

/-- The state an operation that services the bridge ends in is the one the service answers. -/
theorem serviced_eq_next {r : Option State} {t : State} : serviced r = .next t ↔ r = some t := by
  cases r <;> simp [serviced]

end Sys2Proof.Machine
end

section
/-! How an instruction and a step end: in a sound state every operation that the core selects completes in a sound state
(R18, R49, R244), and a step stops only at an input the core is not built for. -/

namespace Sys2Proof.Machine

/-! ### The operations that service the bridge -/

section
variable {s : State} (h : s.Inv) (atClk atData xtClk : Bit) (ts : Nat)
include h

/-- In a sound state a waiting report has its command, so the service completes (R202, V9). -/
theorem State.Inv.brService_completes : ∃ t, brService cfg atClk ts s = some t ∧ t.Inv := by
  have hcommand : s.txResult = .delivered → s.cmdQ ≠ [] := fun hreport =>
    (h.reportHasCommand (by rw [hreport]; exact nofun)).2
  obtain ⟨u, hu⟩ := consumeReport_isSome cfg s hcommand
  have hrun : brService cfg atClk ts s = some (advanceTransmitter cfg atClk ts u) := by rw [brService, hu]; rfl
  exact ⟨_, hrun, inv_brService h atClk ts hrun⟩

theorem State.Inv.dispatchPass_completes : ∃ t, dispatchPass cfg atClk atData xtClk ts s = some t ∧ t.Inv := by
  unfold dispatchPass
  split
  · exact ⟨s, rfl, h⟩
  · have hserve := inv_xtStep (inv_loadPending (inv_popAndTranslate (inv_pollDeadline h ts))) xtClk ts
    obtain ⟨u, hu, hinv⟩ := hserve.brService_completes atClk ts
    exact ⟨goToSleep u, by rw [hu]; rfl, inv_withAsleep hinv _⟩

theorem State.Inv.tickSample_completes : ∃ t, tickSample cfg atClk atData xtClk ts s = some t ∧ t.Inv := by
  unfold tickSample
  split
  · exact (inv_sampleEdge h atClk atData ts).dispatchPass_completes atClk atData xtClk ts
  · exact ⟨s, rfl, h⟩

end

/-! ### How an outcome ends -/

/-- The outcome of something run in `s`: it answers a state that follows `s`, and a sound one if `s` is sound; or it is
refused, which in a sound state has the cause `cause`. -/
def EndsWell (s : State) (o : Host.Outcome State Fault Refusal) (cause : Prop) : Prop :=
  (∃ t, o = .next t ∧ s.Advances t ∧ (s.Inv → t.Inv)) ∨ ∃ r, o = .refused r ∧ (s.Inv → cause)

theorem EndsWell.next {s t : State} {cause : Prop} (hadv : s.Advances t) (hinv : s.Inv → t.Inv) :
    EndsWell s (.next t) cause := .inl ⟨t, rfl, hadv, hinv⟩

theorem EndsWell.kept {s t : State} {cause : Prop} (hkeep : s.Keeps t) (hinv : s.Inv → t.Inv) :
    EndsWell s (.next t) cause := .next hkeep.toAdvances hinv

theorem EndsWell.returning {s t : State} {xs : List Byte} {cause : Prop} (hkeep : s.Keeps t) (hinv : s.Inv → t.Inv) :
    EndsWell s (returning (xs, t)) cause := .next (hkeep.advances_withRet _) fun h => inv_withRet (hinv h) _

/-- A service ends well if it completes in every sound state. -/
theorem EndsWell.serviced {s : State} {r : Option State} {cause : Prop} (hadv : ∀ t, r = some t → s.Advances t)
    (hsome : s.Inv → ∃ t, r = some t ∧ t.Inv) : EndsWell s (serviced r) cause := by
  cases r with
  | some t =>
    refine .next (hadv t rfl) fun h => ?_
    obtain ⟨_, ht, hinv⟩ := hsome h
    cases ht
    exact hinv
  | none =>
    refine .inr ⟨_, rfl, fun h => ?_⟩
    obtain ⟨_, ht, _⟩ := hsome h
    cases ht

/-! ### The instructions -/

/-- The two operations that the core runs only inside another one, and no event, stage or word selects. -/
def isInner (i : Instr) : Bool :=
  match i with
  | .linkSendBit _ _ | .qPush _ => true
  | _ => false

theorem endsWell_keyEntry (ext : Bit) (make : Byte) (s : State) : EndsWell s (keyEntry ext make s) False := by
  unfold keyEntry
  split
  · exact .returning .same inv_clearModeBits
  · exact .kept (.refl s) id

theorem endsWell_runXlData (b : Byte) (xs : List Byte) (s : State) : EndsWell s (runXlData cfg b xs s) False := by
  unfold runXlData
  split
  · exact .returning .same inv_clearModeBits
  · exact .kept (.refl s) id

theorem endsWell_runXlUnknown (b : Byte) (s : State) : EndsWell s (runXlUnknown cfg b s) False := by
  unfold runXlUnknown
  split
  · exact .returning (.counted .unknownScanCode) fun h => inv_clearModeBits (inv_raise h _)
  · exact .kept (.refl s) id

theorem endsWell_execQPop (s : State) : EndsWell s (execQPop s) False := by
  obtain ⟨_, e⟩ | ⟨f, rest, hq, e⟩ := queuePop_cases s <;> rw [execQPop, e]
  · exact .kept (.refl s) id
  · exact .next (State.Keeps.advances_withRet .same _) fun h => inv_withRet (inv_withQ_tail h f rest hq) _

/-- Every instruction but a reset and the two inner operations ends well; none that completes is refused for a reason
but V9's, which no sound state has. -/
theorem endsWell_exec {i : Instr} (hinner : isInner i = false) (hreset : i ≠ .sysReset) (s : State) :
    EndsWell s (exec i s) False := by
  cases hrow : keyRow i with
  | some r => rw [exec_key i r s hrow]; exact endsWell_keyEntry _ _ s
  | none =>
    cases i
    case linkOnEdge level data ts =>
      exact .kept (edgeKeeps_onEdge s data ts level).toKeeps fun h => inv_onEdge h level data ts
    case linkSendBit => cases hinner
    case linkIsInhibited => exact .next (State.Keeps.advances_withRet (.refl s) _) fun h => inv_withRet h _
    case linkTickSample atClk atData xtClk ts =>
      exact .serviced (fun _ => advances_tickSample) fun h => h.tickSample_completes atClk atData xtClk ts
    case linkXtEdge => exact .kept .same fun h => inv_withAsleep h _
    case rxStart data ts => exact .kept (edgeKeeps_rxStart s data ts).toKeeps fun h => inv_rxStart h data ts
    case rxData k data ts => exact .kept (edgeKeeps_rxData s data ts k).toKeeps fun h => inv_rxData h k data ts
    case rxParity data ts => exact .kept (edgeKeeps_rxParity s data ts).toKeeps fun h => inv_rxParity h data ts
    case rxStop data ts => exact .kept (edgeKeeps_rxStop s data ts).toKeeps fun h => inv_rxStop h data ts
    case rxTimeout ts => exact .kept (edgeKeeps_rxTimeout s ts).toKeeps fun h => inv_rxTimeout h ts
    case txRequest atClk ts => exact .kept (keeps_txRequest s ts atClk) fun h => inv_txRequest h atClk ts
    case txRelease ts => exact .kept (keeps_txRelease s ts) fun h => inv_txRelease h ts
    case txHoldEdge => exact .kept (.refl s) id
    case txBit k ts => exact .kept (edgeKeeps_txBit s ts k).toKeeps fun h => inv_txBit h k ts
    case txAck data ts => exact .kept (edgeKeeps_txAck s data ts).toKeeps fun h => inv_txAck h data ts
    case txTimeout ts => exact .kept (edgeKeeps_txTimeout s ts).toKeeps fun h => inv_txTimeout h ts
    case xtLoad b => exact .kept (keeps_xtLoad s b) fun h => inv_xtLoad h b
    case xtStep xtClk ts => exact .kept (keeps_xtStep s ts xtClk) fun h => inv_xtStep h xtClk ts
    case xlPrefixE0 => exact .returning .same fun h => inv_withTr h _
    case xlPrefixF0 => exact .returning .same fun h => inv_withTr h _
    case xlData b xs => exact endsWell_runXlData b xs s
    case xlUnknown b => exact endsWell_runXlUnknown b s
    case brSetIndicators mask => exact .kept (keeps_brSetIndicators s mask) fun h => inv_brSetIndicators h mask
    case brReset => exact .kept (keeps_brReset s) inv_brReset
    case brService atClk ts =>
      exact .serviced (fun _ ht => (keeps_brService ht).toAdvances) fun h => h.brService_completes atClk ts
    case qPush => cases hinner
    case qPop => exact endsWell_execQPop s
    case dispatchPass atClk atData xtClk ts =>
      exact .serviced (fun _ ht => (keeps_dispatchPass ht).toAdvances) fun h =>
        h.dispatchPass_completes atClk atData xtClk ts
    case sysReset => exact absurd rfl hreset
    case atRxFrame v times => exact .kept (keeps_fallingEdges _ s) fun h => inv_fallingEdges _ h
    case atTxFrame v tReq tRel edges =>
      exact .kept (keeps_sendFrame v tReq tRel edges) fun h => inv_sendFrame h v tReq tRel edges
    case xtFrame9 v passes => exact .kept (keeps_transmitFrame _ v passes) fun h => inv_transmitFrame h _ v passes
    case xtFrame10 v passes => exact .kept (keeps_transmitFrame _ v passes) fun h => inv_transmitFrame h _ v passes
    case prefixE0 => exact .returning .same fun h => inv_withTr h _
    case prefixF0 => exact .returning .same fun h => inv_withTr h _
    case cmdSetLeds => exact .kept (keeps_queueSetLeds s) fun h => inv_queueCommand (inv_withAsleep h _) _
    case cmdReset => exact .kept (keeps_brReset s) inv_brReset
    all_goals cases hrow

/-! ### The main loop inside a pass -/

/-- The operation of a stage: the translation of the Frame just popped, or one whose outcome the loop takes as it is
(R226). -/
theorem stageInstr_cases {p : PassPosition} {s : State} {i : Instr} (h : stageInstr cfg p s = some i) :
    (p.stage = .translate ∧ ∃ f, s.ret = .frame f ∧ i = selectTranslation cfg s.tr f.payload) ∨
    (p.stage ≠ .translate ∧ isInner i = false ∧ i ≠ .sysReset) := by
  obtain ⟨stage, atClk, atData, xtClk, ts⟩ := p
  unfold stageInstr at h
  cases stage <;> dsimp only at h
  case translate =>
    cases hret : s.ret with
    | frame f => rw [hret] at h; cases h; exact .inl ⟨rfl, f, rfl, rfl⟩
    | nothing | bit | bytes => rw [hret] at h; cases h
  case service => cases h; exact .inr ⟨nofun, rfl, nofun⟩
  case sleep => cases h
  all_goals
    refine .inr ⟨nofun, ?_⟩
    repeat' split at h
    all_goals cases h
    all_goals exact ⟨rfl, nofun⟩

theorem advances_afterStage (ran : Bool) (p : PassPosition) (s : State) : s.Advances (afterStage ran p s) := by
  obtain ⟨stage, atClk, atData, xtClk, ts⟩ := p
  cases stage
  case translate =>
    unfold afterStage
    dsimp only
    split <;> exact ⟨rfl, .refl _⟩
  case load => cases ran <;> exact ⟨rfl, .refl _⟩
  all_goals exact ⟨rfl, .refl _⟩

/-- What the loop writes between two operations keeps a sound state sound, if a translation gave no more than
`XLAT_MAX_OUT` bytes (R49 (ii), R226). -/
theorem inv_afterStage {ran : Bool} {p : PassPosition} {s : State} (h : s.Inv)
    (hout : ran = true → p.stage = .translate → ∀ xs, s.ret = .bytes xs → xs.length ≤ cfg.xlatMaxOut) :
    (afterStage ran p s).Inv := by
  obtain ⟨stage, atClk, atData, xtClk, ts⟩ := p
  cases stage
  case translate =>
    unfold afterStage
    dsimp only
    split
    next xs hret => exact inv_withPass (inv_withRet (inv_withXtPending h xs (hout rfl rfl xs hret)) _) _
    next => exact inv_withPass h _
  case load =>
    cases ran
    · exact inv_withPass h _
    · have hbound := h.pendingBound
      exact inv_withPass (inv_withXtPending h _ (by rw [List.length_tail]; omega)) _
  case sleep => exact inv_withPass (inv_withAsleep h _) _
  all_goals exact inv_withPass h _

/-- The next operation of the main loop ends well (R226). -/
theorem endsWell_mainLoop (p : PassPosition) (s : State) :
    EndsWell s (runFetched exec (fetchMainLoop cfg p s)) False := by
  unfold fetchMainLoop
  cases hstage : stageInstr cfg p s with
  | none => exact .next (advances_afterStage false p s) fun h => inv_afterStage h nofun
  | some i =>
    dsimp only [runFetched, finish]
    obtain ⟨htranslate, f, _, rfl⟩ | ⟨hother, hinner, hreset⟩ := stageInstr_cases hstage
    · rw [exec_selectTranslation]
      refine .next (((keeps_translate s f.payload).advances_withRet _).trans (advances_afterStage true p _)) fun h => ?_
      obtain ⟨hinv, hlength⟩ := inv_translate h f.payload
      refine inv_afterStage (inv_withRet hinv _) fun _ _ xs hret => ?_
      cases hret
      exact hlength
    · obtain ⟨u, hu, hadv, hinv⟩ | ⟨r, hr, hsound⟩ := endsWell_exec hinner hreset s
      · rw [hu]
        exact .next (hadv.trans (advances_afterStage true p u)) fun h =>
          inv_afterStage (hinv h) fun _ htranslate => absurd htranslate hother
      · rw [hr]
        exact .inr ⟨r, rfl, hsound⟩

/-! ### An input -/

/-- An event selects no inner operation, and a reset only if it is one. -/
theorem selectByEvent_not_inner (e : Event) : isInner (selectByEvent e) = false := by
  obtain _ | _ | _ | _ | (_ | _) | _ := e <;> rfl

theorem selectByEvent_readEvent_ne_reset {p : Pins} {e : Event} (h : e ≠ .reset) :
    selectByEvent (readEvent p e) ≠ .sysReset := by
  obtain _ | _ | _ | _ | (_ | _) | _ := e
  case reset => exact absurd rfl h
  all_goals simp [selectByEvent, readEvent]

theorem decodeCommand_not_inner {b : Byte} {i : Instr} (h : decodeCommand cfg b = .ok i) :
    isInner i = false ∧ i ≠ .sysReset := by
  obtain ⟨_, rfl⟩ | ⟨_, rfl⟩ := decodeCommand_ok_cases h <;> exact ⟨rfl, nofun⟩

theorem decodeFrame_not_inner {fmt : FrameFormat} {wire : List Bit} {sch : Schedule} {i : Instr}
    (h : decodeFrame fmt wire sch = .ok i) : isInner i = false ∧ i ≠ .sysReset := by
  unfold decodeFrame at h
  split at h
  next => split at h <;> cases h; exact ⟨rfl, nofun⟩
  next => split at h <;> cases h; exact ⟨rfl, nofun⟩
  next => obtain ⟨_, _, rfl⟩ | ⟨_, _, rfl⟩ := decodeXtWire_ok_cases h <;> exact ⟨rfl, nofun⟩

/-- An instruction run with no place in a pass ends as it does on its own. -/
theorem runFetched_run_none (i : Instr) (s : State) : runFetched exec (.run i none s) = exec i s := by
  cases h : exec i s <;> simp [runFetched, h, finish]

theorem EndsWell.mono {s : State} {o : Host.Outcome State Fault Refusal} {P Q : Prop} (h : EndsWell s o P)
    (hPQ : P → Q) : EndsWell s o Q :=
  h.imp_right fun ⟨r, hr, hcause⟩ => ⟨r, hr, fun hs => hPQ (hcause hs)⟩

theorem endsWell_run {i : Instr} {cause : Prop} (hi : isInner i = false ∧ i ≠ .sysReset) (s : State) :
    EndsWell s (runFetched exec (.run i none s)) cause := by
  rw [runFetched_run_none]
  exact (endsWell_exec hi.1 hi.2 s).mono False.elim

/-- An input but a reset ends well: in a sound state it is refused only if it is none the core is built for. -/
theorem endsWell_input {inp : Input} (hreset : inp ≠ .event .reset) (s : State) :
    EndsWell s (runFetched exec (fetchInput cfg inp s)) (Input.admissible inp = false) := by
  cases inp with
  | event e =>
    dsimp only [fetchInput, fetchEvent]
    split
    next hmode =>
      exact endsWell_run ⟨selectByEvent_not_inner _, selectByEvent_readEvent_ne_reset fun he => hreset (by rw [he])⟩ s
    next hmode => exact .inr ⟨_, rfl, fun _ => Bool.eq_false_iff.mpr hmode⟩
  | beginPass atClk atData xtClk ts =>
    dsimp only [fetchInput, beginPass]
    split
    next =>
      cases s.asleep
      · exact .next ⟨rfl, .refl _⟩ fun h => inv_withPass h _
      · exact .kept (.refl s) id
    next hmode => exact .inr ⟨_, rfl, fun _ => by simpa [Input.admissible] using hmode⟩
  | mainLoop => exact .kept (.refl s) id
  | commandByte b =>
    dsimp only [fetchInput, fetchCommand]
    cases hdec : decodeCommand cfg b with
    | ok i => exact endsWell_run (decodeCommand_not_inner hdec) s
    | error => exact .inr ⟨_, rfl, fun _ => by simp [Input.admissible, hdec]⟩
  | frame fmt wire sch =>
    dsimp only [fetchInput, fetchFrame]
    cases hdec : decodeFrame fmt wire sch with
    | ok i => exact endsWell_run (decodeFrame_not_inner hdec) s
    | error =>
      cases fmt with
      | atRx => exact .kept (keeps_fallingEdges _ s) fun h => inv_fallingEdges _ h
      | atTx | xt => exact .inr ⟨_, rfl, fun _ => by simp [Input.admissible, hdec]⟩

/-! ### A step -/

section
variable {s : State} {inp : Input} {rest : List Input} {p : PassPosition}

/-- With an input next and no pass under way the input is taken. -/
theorem step_input (hpass : s.pass = none) (hinputs : s.inputs = inp :: rest) :
    step s = runFetched exec (fetchInput cfg inp (s.withInputs rest)) := by
  rw [step, fetch, hinputs, hpass]

/-- An input that does not wait for the pass lands in it (R72, R256). -/
theorem step_lands (hinputs : s.inputs = inp :: rest) (hlands : waitsForPass inp = false) :
    step s = runFetched exec (fetchInput cfg inp (s.withInputs rest)) := by
  cases hpass : s.pass with
  | none => exact step_input hpass hinputs
  | some p => simp [step, fetch, hinputs, hpass, hlands]

theorem step_waits (hpass : s.pass = some p) (hinputs : s.inputs = inp :: rest) (hwaits : waitsForPass inp = true) :
    step s = runFetched exec (fetchMainLoop cfg p (s.withInputs (keepWaiting inp rest))) := by
  simp [step, fetch, hinputs, hpass, hwaits]

theorem step_noInput (hpass : s.pass = none) (hinputs : s.inputs = []) : step s = .next s := by
  rw [step, fetch, hinputs, hpass]
  rfl

theorem step_loop (hpass : s.pass = some p) (hinputs : s.inputs = []) :
    step s = runFetched exec (fetchMainLoop cfg p s) := by
  rw [step, fetch, hinputs, hpass]

/-- A reset is taken at once, in either sampling mode and inside a pass too (R280). -/
theorem step_reset (hinputs : s.inputs = .event .reset :: rest) : step s = .next (sysReset (s.withInputs rest)) := by
  rw [step_lands hinputs rfl]
  rfl

theorem mem_keepWaiting {inp i : Input} {rest : List Input} (h : i ∈ keepWaiting inp rest) : i ∈ inp :: rest := by
  cases inp with
  | mainLoop => exact List.mem_cons_of_mem _ h
  | event | beginPass | commandByte | frame => exact h

end

/-- What a step answers: a state with no inputs but those before it, no counter lowered, and sound if the state before it
is; or a refusal, which in a sound state names an input the core is not built for. -/
def StepEnds (s : State) : Prop :=
  (∃ t, step s = .next t ∧ (∀ i ∈ t.inputs, i ∈ s.inputs) ∧ s.err.GrowsTo t.err ∧ (s.Inv → t.Inv)) ∨
    ∃ r, step s = .refused r ∧ (s.Inv → ∃ inp ∈ s.inputs, Input.admissible inp = false)

/-- A step that runs something in the state with fewer inputs ends as that does. -/
theorem EndsWell.stepEnds {s : State} {left : List Input} {o : Host.Outcome State Fault Refusal} {cause : Prop}
    (h : EndsWell (s.withInputs left) o cause) (hstep : step s = o) (hleft : ∀ i ∈ left, i ∈ s.inputs)
    (hcause : cause → ∃ inp ∈ s.inputs, Input.admissible inp = false) : StepEnds s := by
  obtain ⟨t, rfl, hadv, hinv⟩ | ⟨r, rfl, hr⟩ := h
  · refine .inl ⟨t, hstep, fun i hi => hleft i ?_, hadv.counters, fun hs => hinv (inv_withInputs hs left)⟩
    rwa [hadv.inputs] at hi
  · exact .inr ⟨r, hstep, fun hs => hcause (hr (inv_withInputs hs left))⟩

/-- Every step but a reset ends so: it takes the next input, or the main loop goes on. -/
theorem step_ends {s : State} (hreset : s.inputs.head? ≠ some (.event .reset)) : StepEnds s := by
  cases hinputs : s.inputs with
  | nil =>
    cases hpass : s.pass with
    | none => exact .inl ⟨s, step_noInput hpass hinputs, fun _ hi => hi, .refl _, id⟩
    | some p =>
      exact (endsWell_mainLoop p s).stepEnds (left := s.inputs) (step_loop hpass hinputs) (fun _ hi => hi) False.elim
  | cons inp rest =>
    have hinp : inp ≠ .event .reset := fun he => hreset (by rw [hinputs, he]; rfl)
    have hrest : ∀ i ∈ rest, i ∈ s.inputs := fun i hi => hinputs ▸ List.mem_cons_of_mem _ hi
    have hcause : Input.admissible inp = false → ∃ inp ∈ s.inputs, Input.admissible inp = false := fun hbad =>
      ⟨inp, hinputs ▸ List.mem_cons_self, hbad⟩
    cases hwaits : waitsForPass inp with
    | false => exact (endsWell_input hinp _).stepEnds (step_lands hinputs hwaits) hrest hcause
    | true =>
      cases hpass : s.pass with
      | none => exact (endsWell_input hinp _).stepEnds (step_input hpass hinputs) hrest hcause
      | some p =>
        exact (endsWell_mainLoop p _).stepEnds (step_waits hpass hinputs hwaits)
          (fun i hi => hinputs ▸ mem_keepWaiting hi) False.elim

/-! ### A run -/

theorem run_succ_of_next (M : Host.Core) {n : Nat} {s t : M.State} (h : M.step s = .next t) :
    M.run (n + 1) s = M.run n t := by
  simp only [Host.Core.run, h]

theorem run_next {n : Nat} {s t : State} (h : step s = .next t) :
    Host.Core.run Sys2Proof.core (n + 1) s = Host.Core.run Sys2Proof.core n t :=
  run_succ_of_next Sys2Proof.core h

/-! ### The obligations -/

/-- Settles O58: nothing is queued, both links are idle, no report waits, and the counters are 0. -/
theorem resetIsSound : Obligations.ResetIsSound where
  queueBound := Nat.zero_le _
  queueFrames := nofun
  pendingBound := Nat.zero_le _
  commandBound := Nat.zero_le _
  deadlineNone := ⟨fun _ => .inl rfl, fun _ => rfl⟩
  clockHeld := ⟨nofun, nofun⟩
  dataReleased := fun _ => rfl
  byteInFlight := nofun
  noStallIdle := fun _ => rfl
  xtClockHigh := rfl
  attemptsBound := by decide
  idleClear := fun _ => ⟨rfl, rfl, rfl, rfl⟩
  xtPosition := nofun
  xtParityUnused := rfl
  reportHasCommand := fun hreport => absurd rfl hreport
  dataReleasedOutbound := fun _ => rfl
  countersFit := fun k => by rw [State.reset_err_get]; decide

theorem inv_sysReset (s : State) : (sysReset s).Inv := inv_withInputs resetIsSound s.inputs

/-- A step takes a state of a sound run to the next one, or stops at an input the core is not built for. -/
theorem step_sound {s : State} (h : s.Inv) :
    (∃ t, step s = .next t ∧ t.Inv ∧ ∀ i ∈ t.inputs, i ∈ s.inputs) ∨
    ((∃ r, step s = .refused r) ∧ ∃ inp ∈ s.inputs, Input.admissible inp = false) := by
  by_cases hreset : s.inputs.head? = some (.event .reset)
  · obtain ⟨rest, hinputs⟩ := List.head?_eq_some_iff.mp hreset
    exact .inl ⟨_, step_reset hinputs, inv_sysReset _, fun i hi => hinputs ▸ List.mem_cons_of_mem _ hi⟩
  · obtain ⟨t, ht, hinputs, _, hinv⟩ | ⟨r, hr, hcause⟩ := step_ends hreset
    · exact .inl ⟨t, ht, hinv h, hinputs⟩
    · exact .inr ⟨⟨r, hr⟩, hcause h⟩

/-- Settles O59. -/
theorem stepKeepsInvariant : Obligations.StepKeepsInvariant := by
  intro s t h hstep
  obtain ⟨u, hu, hinv, _⟩ | ⟨⟨r, hr⟩, _⟩ := step_sound h
  · rw [hu] at hstep
    cases hstep
    exact hinv
  · rw [hr] at hstep
    cases hstep

/-- Settles O60: by induction on the number of steps; a step leaves no inputs but those before it, so they stay inputs
the core is built for and no step is refused. -/
theorem coreNeverStops : Obligations.CoreNeverStops := by
  intro n
  induction n with
  | zero => exact fun s h _ => ⟨s, rfl, h⟩
  | succ n ih =>
    intro s h hadmissible
    obtain ⟨t, ht, hinv, hinputs⟩ | ⟨_, inp, hmem, hbad⟩ := step_sound h
    · obtain ⟨u, hu, huinv⟩ := ih t hinv fun i hi => hadmissible i (hinputs i hi)
      exact ⟨u, (run_next ht).trans hu, huinv⟩
    · rw [hadmissible inp hmem] at hbad
      cases hbad

/-- Settles O4. -/
theorem countersNeverDecreaseButByReset : Obligations.CountersNeverDecreaseButByReset := by
  intro s t hreset hstep k hfit
  obtain ⟨u, hu, _, hgrow, _⟩ | ⟨r, hr, _⟩ := step_ends hreset
  · rw [hu] at hstep
    cases hstep
    exact (hgrow k hfit).1
  · rw [hr] at hstep
    cases hstep

end Sys2Proof.Machine
end

section
/-! What a step runs: the operation of an event's row (R13), a handler inside a pass (R72, R256), a decoded word (R80,
R89), and the payload a pass has popped (R190, R226). -/

namespace Sys2Proof.Machine

section
variable {s : State} {rest : List Input}

/-- An event that is taken runs the operation of its row on the levels the core reads, or is refused when the sampling
mode does not have it (R13, R43, V6). -/
theorem runFetched_event (e : Event) (s : State) : runFetched exec (fetchInput cfg (.event e) s) =
    if admittedIn cfg.samplingMode e then exec (selectByEvent (readEvent s.pins e)) s
    else .refused .wrongSamplingMode := by
  dsimp only [fetchInput, fetchEvent]
  split
  · exact runFetched_run_none _ s
  · rfl

theorem step_event {e : Event} (hpass : s.pass = none) (hinputs : s.inputs = .event e :: rest) :
    step s = if admittedIn cfg.samplingMode e then exec (selectByEvent (readEvent s.pins e)) (s.withInputs rest)
      else .refused .wrongSamplingMode := by
  rw [step_input hpass hinputs, runFetched_event, State.withInputs_pins]

/-- A handler that lands in a pass keeps its place and the value returned last (R72, R250): an edge, a wake-up, or a
request. -/
theorem exec_handler {e : Event} (hpass : beginsPass e = false) (hreset : e ≠ .reset) (p : Pins) (s : State) :
    ∃ t, exec (selectByEvent (readEvent p e)) s = .next t ∧ s.Keeps t := by
  cases e with
  | atEdge level data ts => exact ⟨_, rfl, (edgeKeeps_onEdge s _ ts _).toKeeps⟩
  | xtEdge level ts => exact ⟨_, rfl, .same⟩
  | tick | pass => cases hpass
  | hostReq r =>
    cases r with
    | setIndicators mask => exact ⟨_, rfl, keeps_brSetIndicators s mask⟩
    | reset => exact ⟨_, rfl, keeps_brReset s⟩
  | reset => exact absurd rfl hreset

/-- A step inside a pass at the place of a popped Frame translates its payload, and the output becomes `xt_pending`. -/
theorem step_translate {p : PassPosition} {f : Frame} (hpass : s.pass = some p) (hstage : p.stage = .translate)
    (hret : s.ret = .frame f) (hinputs : s.inputs = .mainLoop :: rest) :
    step s = runFetched exec (.run (selectTranslation cfg s.tr f.payload) (some p) (s.withInputs rest)) := by
  rw [step_waits hpass hinputs rfl]
  simp [fetchMainLoop, stageInstr, hstage, hret, keepWaiting]

end

/-! ### The obligations -/

/-- Settles O50: each row of R13 is `step_event`; what is left is which mode has the event. -/
theorem stepRunsTheSelectedOperation : Obligations.StepRunsTheSelectedOperation := by
  intro rest s hpass
  refine ⟨fun level data ts h => ?atEdge, fun level ts h => ?xtEdge, fun atClk atData xtClk ts h => ?tick,
    fun atClk atData xtClk ts h => ?pass, fun mask h => ?setIndicators, fun h => ?hostReset, fun h => ?reset⟩
  case setIndicators => exact step_event hpass h
  case hostReset => exact step_event hpass h
  case reset => exact step_event hpass h
  all_goals
    rw [step_event hpass h]
    simp only [admittedIn, beq_iff_eq]
    rfl

/-- Settles O51: the event lands (`step_lands`), and its handler is one of those of `exec_handler`. -/
theorem handlersLandBetweenOperations : Obligations.HandlersLandBetweenOperations := by
  intro e rest p s hinputs hpass hbegins hreset hmode
  obtain ⟨t, ht, hkeep⟩ := exec_handler hbegins hreset s.pins (s.withInputs rest)
  refine ⟨t, ?_, hkeep.pass.trans hpass, hkeep.ret, ht⟩
  rw [step_lands hinputs hbegins, runFetched_event, if_pos hmode, State.withInputs_pins, ht]

/-- Settles O52: a payload the decoder accepts is the operation `selectTranslation` selects. -/
theorem stepRunsTheDecodedPayload : Obligations.StepRunsTheDecodedPayload := by
  intro p f i rest u xs s hpass hstage hret hinputs hdecode hexec hbytes
  have hselect : selectTranslation cfg s.tr f.payload = i := by rw [selectTranslation, hdecode]
  have hexec' : exec i (s.withInputs rest) = .next u := hexec
  rw [step_translate hpass hstage hret hinputs, hselect]
  simp only [runFetched, hexec', finish, afterStage, hstage, hbytes]
  rfl

/-- Settles O53: a command byte lands in a pass too, a frame is taken where no pass is under way. -/
theorem stepRunsTheDecodedWord : Obligations.StepRunsTheDecodedWord := by
  intro i rest s
  refine ⟨fun b hinputs hdecode => ?command, fun fmt wire sch hinputs hpass hdecode => ?frame⟩
  case command =>
    rw [step_lands hinputs rfl, fetchInput, fetchCommand, hdecode]
    exact runFetched_run_none i _
  case frame =>
    rw [step_input hpass hinputs]
    simp only [fetchInput, fetchFrame, hdecode]
    exact runFetched_run_none i _

end Sys2Proof.Machine
end

section
/-! The handler of an AT edge as a whole (R110, R250): what it leaves of the queue and of the clock line, and how it moves
the bit position of R21; and the tick that calls it (R113). -/

namespace Sys2Proof.Machine

/-! ### The Frame Queue and the clock line -/

/-- The queue is as it was, or one Frame longer at its newest end. -/
def pushedAtMostOne (s t : State) : Prop := t.q = s.q ∨ ∃ f, t.q = s.q ++ [f]

theorem pushedAtMostOne_queuePush (f : Frame) (s : State) : pushedAtMostOne s (queuePush cfg f s) := by
  obtain ⟨_, e⟩ | ⟨_, e⟩ := queuePush_cases cfg f s <;> rw [e]
  · exact .inr ⟨f, rfl⟩
  · exact .inl rfl

theorem queuePush_pins (f : Frame) (s : State) : (queuePush cfg f s).pins = s.pins := by
  obtain ⟨_, e⟩ | ⟨_, e⟩ := queuePush_cases cfg f s <;> rw [e] <;> rfl

section
variable (data : Bit) (ts : Nat) (s : State)

/-- Of the operations a falling edge in time selects, `RX.STOP` alone pushes (R134). -/
theorem pushedAtMostOne_edgeByTag : pushedAtMostOne s (edgeByTag cfg data ts s) := by
  obtain e | ⟨i, e⟩ | e | e | e | ⟨i, e⟩ | e := edgeByTag_cases cfg data ts s <;> rw [e]
  · obtain ⟨_, e⟩ | ⟨_, _, e⟩ | ⟨_, _, e⟩ := rxStart_cases cfg data ts s <;> rw [e] <;> exact .inl rfl
  · obtain ⟨_, e⟩ | ⟨_, _, e⟩ := rxData_cases cfg i data ts s <;> rw [e] <;> exact .inl rfl
  · obtain ⟨_, e⟩ | ⟨_, _, e⟩ := rxParity_cases cfg data ts s <;> rw [e] <;> exact .inl rfl
  · obtain ⟨_, e⟩ | ⟨_, _, ⟨_, e⟩ | ⟨_, _, e⟩ | ⟨_, _, e⟩⟩ := rxStop_cases cfg data ts s <;> rw [e]
    case inr.inr.inr => exact pushedAtMostOne_queuePush _ s
    all_goals exact .inl rfl
  · exact .inl rfl
  · obtain ⟨_, e⟩ | ⟨_, _, e⟩ := txBit_cases cfg i ts s <;> rw [e] <;> exact .inl rfl
  · obtain ⟨_, e⟩ | ⟨_, _, e⟩ := txAck_cases data ts s <;> rw [e] <;> exact .inl rfl

/-- None of them drives the clock line: `TX.BIT` writes the data line only (R111, R154). -/
theorem edgeByTag_atClkLow : (edgeByTag cfg data ts s).pins.atClkLow = s.pins.atClkLow := by
  obtain e | ⟨i, e⟩ | e | e | e | ⟨i, e⟩ | e := edgeByTag_cases cfg data ts s <;> rw [e]
  · obtain ⟨_, e⟩ | ⟨_, _, e⟩ | ⟨_, _, e⟩ := rxStart_cases cfg data ts s <;> rw [e] <;> rfl
  · obtain ⟨_, e⟩ | ⟨_, _, e⟩ := rxData_cases cfg i data ts s <;> rw [e]
    rfl
  · obtain ⟨_, e⟩ | ⟨_, _, e⟩ := rxParity_cases cfg data ts s <;> rw [e]
    rfl
  · obtain ⟨_, e⟩ | ⟨_, _, ⟨_, e⟩ | ⟨_, _, e⟩ | ⟨_, _, e⟩⟩ := rxStop_cases cfg data ts s <;> rw [e]
    case inr.inr.inr => exact congrArg Pins.atClkLow (queuePush_pins _ s)
    all_goals rfl
  · obtain ⟨_, e⟩ | ⟨_, _, e⟩ := txBit_cases cfg i ts s <;> rw [e]
    rfl
  · obtain ⟨_, e⟩ | ⟨_, _, e⟩ := txAck_cases data ts s <;> rw [e]
    rfl

theorem rxTimeout_q_pins : (rxTimeout cfg ts s).q = s.q ∧ (rxTimeout cfg ts s).pins = s.pins := by
  obtain ⟨_, e⟩ | ⟨_, _, e⟩ := rxTimeout_cases cfg ts s <;> rw [e] <;> exact ⟨rfl, rfl⟩

theorem txTimeout_q : (txTimeout cfg ts s).q = s.q := by
  obtain ⟨_, e⟩ | ⟨_, _, e⟩ := txTimeout_cases cfg ts s <;> rw [e]
  rfl

/-- While a frame is sent the core does not hold the clock, so aborting it does not change the line (R49 (iv), R156). -/
theorem txTimeout_atClkLow {s : State} (h : s.Inv) : (txTimeout cfg ts s).pins.atClkLow = s.pins.atClkLow := by
  obtain ⟨_, e⟩ | ⟨hsend, _, e⟩ := txTimeout_cases cfg ts s <;> rw [e]
  have hhold : s.atBus.st ≠ .txHold := by rintro hst; rw [hst] at hsend; cases hsend
  exact (Bool.eq_false_iff.mpr (mt h.clockHeld.mp hhold)).symm

theorem pushedAtMostOne_onEdge (level : Bit) : pushedAtMostOne s (onEdge cfg level data ts s) := by
  obtain e | e | e | e | e := onEdge_cases cfg level data ts s <;> rw [e]
  · exact .inl rfl
  · exact pushedAtMostOne_edgeByTag data ts (s.withAsleep false)
  · exact .inl (rxTimeout_q_pins ts _).1
  · have hpush := pushedAtMostOne_edgeByTag data ts (rxTimeout cfg ts (s.withAsleep false))
    rwa [pushedAtMostOne, (rxTimeout_q_pins ts _).1] at hpush
  · exact .inl (txTimeout_q ts _)

theorem onEdge_atClkLow {s : State} (h : s.Inv) (level : Bit) :
    (onEdge cfg level data ts s).pins.atClkLow = s.pins.atClkLow := by
  obtain e | e | e | e | e := onEdge_cases cfg level data ts s <;> rw [e]
  · rfl
  · exact edgeByTag_atClkLow data ts _
  · rw [(rxTimeout_q_pins ts _).2]; rfl
  · rw [edgeByTag_atClkLow, (rxTimeout_q_pins ts _).2]; rfl
  · exact txTimeout_atClkLow ts (inv_withAsleep h false)

end

/-! ### The bit position -/

theorem bitpos_txNextState (i : Fin 10) : (txNextState i).bitpos = some (i.val + 2) := by
  by_cases hi : i.val < 9
  · simp [txNextState, hi, AtState.bitpos]
  · have hlast : i.val = 9 := by omega
    simp [txNextState, hlast, AtState.bitpos]

/-- `RX.STOP` ends the frame, whatever it decides (R134). -/
theorem rxStop_ends {data : Bit} {ts : Nat} {s : State} (hst : s.atBus.st = .parityCheck)
    (htime : atInTime ts s = true) : (rxStop cfg data ts s).atBus.st = .idle := by
  obtain ⟨hguard, _⟩ | ⟨_, _, ⟨_, e⟩ | ⟨_, _, e⟩ | ⟨_, _, e⟩⟩ := rxStop_cases cfg data ts s
  · exact absurd ⟨hst, htime⟩ hguard
  all_goals rw [e]; rfl

section
variable {data : Bit} {ts : Nat} {s : State}

/-- In `Idle` a start bit begins a frame at position 1, and any other edge none (R21, R131). -/
theorem edgeByTag_bitpos_idle (hst : s.atBus.st = .idle) :
    (edgeByTag cfg data ts s).atBus.st.bitpos = some (if data then 0 else 1) := by
  rw [edgeByTag_idle hst]
  cases data
  · rw [rxStart_startBit hst]; rfl
  · rw [rxStart_noStartBit hst, raise_eq, State.withErr_atBus, hst]; rfl

/-- The position after an edge in time: one further on, or none left after the last (R21). -/
theorem edgeByTag_bitpos {p : Nat} (htime : atInTime ts s = true) (hidle : s.atBus.st ≠ .idle)
    (hpos : s.atBus.st.bitpos = some p) :
    (p < (if s.atBus.st.isFrameReceive then 10 else 11) →
      (edgeByTag cfg data ts s).atBus.st.bitpos = some (p + 1)) ∧
    (p = (if s.atBus.st.isFrameReceive then 10 else 11) → (edgeByTag cfg data ts s).atBus.st = .idle) := by
  cases hst : s.atBus.st with
  | idle => exact absurd hst hidle
  | txHold => rw [hst] at hpos; cases hpos
  | receiving i =>
    rw [hst] at hpos
    cases hpos
    refine ⟨fun _ => ?_, fun hlast => absurd hlast (by simp [AtState.isFrameReceive]; omega)⟩
    obtain ⟨k, rfl⟩ | rfl := i.eq_castSucc_or_eq_last
    · rw [edgeByTag_receiving_data hst, rxData_inTime hst htime]
      simp [AtState.bitpos]
    · rw [edgeByTag_receiving_parity hst, rxParity_inTime hst htime]
      rfl
  | parityCheck =>
    rw [hst] at hpos
    cases hpos
    refine ⟨fun hmore => absurd hmore (by decide), fun _ => ?_⟩
    rw [edgeByTag_parityCheck hst, rxStop_ends hst htime]
  | txSending i =>
    rw [hst] at hpos
    cases hpos
    refine ⟨fun _ => ?_, fun hlast => absurd hlast (by simp [AtState.isFrameReceive]; omega)⟩
    rw [edgeByTag_txSending hst, txBit_inTime hst htime, State.withAt_atBus, bitpos_txNextState]
  | txAwaitAck =>
    rw [hst] at hpos
    cases hpos
    refine ⟨fun hmore => absurd hmore (by decide), fun _ => ?_⟩
    rw [edgeByTag_txAwaitAck hst, txAck_inTime hst htime]
    rfl

end

/-! ### The obligations -/

/-- Settles O6: the frame is `edgeKeeps_onEdge` with the queue and the clock line; in time the edge is that of its tag,
which moves the bit position. -/
theorem onEdgeCompletesAndFrame : Obligations.OnEdgeCompletesAndFrame := by
  intro level data ts s
  have hkeep := edgeKeeps_onEdge s data ts level
  refine ⟨_, exec_linkOnEdge level data ts s, ?asleep, hkeep.xtBus, hkeep.tr, pushedAtMostOne_onEdge data ts s level,
    hkeep.xtPending, hkeep.cmdQ, hkeep.cmdAttempts, hkeep.kbdUnresponsive, hkeep.unknownScanCode,
    hkeep.transmitInhibitedExceeded, hkeep.commandDeliveryFailed, hkeep.xtClkOut, hkeep.xtDataOut, hkeep.atClkPrev,
    hkeep.inputs, hkeep.pass, hkeep.ret, fun h => onEdge_atClkLow data ts h level, fun hfalling hdeadline => ?bitpos⟩
  case asleep => exact (edgeKeeps_onEdge (s.withAsleep false) data ts level).asleep rfl
  case bitpos =>
    subst hfalling
    rw [onEdge_inTime (expired_eq_false_iff.mpr hdeadline)]
    have htime : atInTime ts (s.withAsleep false) = true := atInTime_iff.mpr hdeadline
    exact ⟨fun hidle => edgeByTag_bitpos_idle (s := s.withAsleep false) hidle, fun p => edgeByTag_bitpos htime⟩

/-- Settles O11: the tick completes (`tickSample_completes`); the pass it runs keeps the sampled level. -/
theorem tickCompletes : Obligations.TickCompletes := by
  intro atClk atData xtClk ts s h
  obtain ⟨t, ht, hinv⟩ := h.tickSample_completes atClk atData xtClk ts
  refine ⟨t, serviced_eq_next.mpr ht, hinv, ?_⟩
  unfold tickSample at ht
  split at ht
  next hmode =>
    obtain ⟨u, hu, hsample⟩ := sampleEdge_keeps atClk atData ts s
    rw [hsample] at ht
    have hkeep := keeps_dispatchPass ht
    rw [if_pos hmode]
    exact ⟨hkeep.inputs.trans hu.inputs, hkeep.pass.trans hu.pass, hkeep.ret.trans hu.ret, hkeep.atClkPrev⟩
  next hmode =>
    cases ht
    rw [if_neg hmode]
    exact ⟨rfl, rfl, rfl, rfl⟩

end Sys2Proof.Machine
end

section
/-! Whole AT frames (R136, R157): the eleven edges of an inbound and of an outbound frame, run through the operations of
the receiver and of the transmitter, by induction on the data bits. -/

namespace Sys2Proof.Machine

/-! ### The edges of a frame -/

/-- No edge comes later than the timeout after the one before it. -/
def Timely (timeout : Nat) (times : List Nat) : Prop := List.IsChain (fun a b => b ≤ a + timeout) times

theorem timely_cons_cons {timeout a b : Nat} {times : List Nat} :
    Timely timeout (a :: b :: times) ↔ b ≤ a + timeout ∧ Timely timeout (b :: times) := List.isChain_cons_cons

/-- The link in `Idle` is at its reset values but for `hold_until` (R49 (iii), (x)). -/
theorem State.Inv.idle_link {s : State} (h : s.Inv) (hst : s.atBus.st = .idle) :
    s.atBus = ⟨.idle, 0, false, false, none, 0, s.atBus.holdUntil⟩ := by
  obtain ⟨hshift, hacc, hpar, hbyte⟩ := h.idleClear hst
  have hdeadline := h.deadlineNone.mpr (.inl hst)
  rcases hlink : s.atBus with ⟨st, shift, acc, par, deadline, byte, hold⟩
  simp_all

/-- The first edge ends the low-power wait (R227). -/
theorem fallingEdges_withAsleep {c : Cfg} {edges : List (Bit × Nat)} (hne : edges ≠ []) (b : Bit) (s : State) :
    fallingEdges c edges (s.withAsleep b) = fallingEdges c edges s := by
  cases edges with
  | nil => exact absurd rfl hne
  | cons e edges => rfl

/-! ### An inbound frame -/

/-- `v` with the bits from position `i` on written in turn, as `RX.DATA` does (R87, R132). -/
def setBits : Byte → Nat → List Bit → Byte
  | v, _, [] => v
  | v, i, b :: bits => setBits (setBit v i b) (i + 1) bits

/-- Eight data bits written from position 0 on are the byte, whatever stood there. -/
theorem setBits_dataBits (v : Byte) : setBits 0 0 (dataBits v) = v := byteOfBits_dataBits v

theorem foldl_xor_dataBits (v : Byte) : (dataBits v).foldl (· ^^ ·) false = xorBits v := by
  simp [dataBits, xorBits]

/-- `s` awake, in the middle of an inbound frame: the tag and what has been received, the last edge at `t`. -/
def receivingAt (s : State) (st : AtState) (shift : Byte) (acc par : Bit) (t : Nat) : State :=
  (s.withAsleep false).withAt
    ⟨st, shift, acc, par, some (t + cfg.atBitTimeout), s.atBus.txByte, s.atBus.holdUntil⟩

section
variable {s : State} {shift : Byte} {acc par : Bit} {t ts : Nat} {st : AtState}

/-- The core does not pull the data line low while it receives, so it reads the keyboard's level (R43). -/
theorem lineRead_receivingAt (hreleased : s.pins.atDataLow = false) (b : Bit) :
    lineRead b (receivingAt s st shift acc par t).pins.atDataLow = b := by
  change lineRead b s.pins.atDataLow = b
  rw [hreleased, lineRead_released]

theorem onEdge_startBit (hidle : s.atBus.st = .idle) (hdeadline : s.atBus.deadline = none) :
    onEdge cfg false false ts s = receivingAt s (.receiving 0) 0 false false ts := by
  rw [onEdge_inTime (by rw [hdeadline, expired_none]), edgeByTag_idle (s := s.withAsleep false) hidle,
    rxStart_startBit (s := s.withAsleep false) hidle]
  rfl

/-- An edge no later than the timeout after the one before is in time. -/
theorem onEdge_receivingAt (hts : ts ≤ t + cfg.atBitTimeout) (data : Bit) :
    onEdge cfg false data ts (receivingAt s st shift acc par t) =
      edgeByTag cfg data ts (receivingAt s st shift acc par t) ∧
    atInTime ts (receivingAt s st shift acc par t) = true := by
  have htime : ∀ d, (receivingAt s st shift acc par t).atBus.deadline = some d → ts ≤ d := by
    rintro d hd
    cases hd
    exact hts
  exact ⟨onEdge_inTime (expired_eq_false_iff.mpr htime), atInTime_iff.mpr htime⟩

theorem onEdge_receivingAt_data (hts : ts ≤ t + cfg.atBitTimeout) (i : Fin 8) (data : Bit) :
    onEdge cfg false data ts (receivingAt s (.receiving i.castSucc) shift acc par t) =
      receivingAt s (.receiving i.succ) (setBit shift i.val data) (acc ^^ data) par ts := by
  obtain ⟨hedge, htime⟩ := onEdge_receivingAt (s := s) (st := .receiving i.castSucc) (shift := shift) (acc := acc)
    (par := par) hts data
  rw [hedge, edgeByTag_receiving_data rfl, rxData_inTime rfl htime]
  rfl

theorem onEdge_receivingAt_parity (hts : ts ≤ t + cfg.atBitTimeout) (data : Bit) :
    onEdge cfg false data ts (receivingAt s (.receiving 8) shift acc par t) =
      receivingAt s .parityCheck shift acc data ts := by
  obtain ⟨hedge, htime⟩ := onEdge_receivingAt (s := s) (st := .receiving 8) (shift := shift) (acc := acc)
    (par := par) hts data
  rw [hedge, edgeByTag_receiving_parity rfl, rxParity_inTime rfl htime]
  rfl

/-- The data bits still to come, from position `i` on: each is written and enters the parity (R132). -/
theorem fallingEdges_dataBits (hreleased : s.pins.atDataLow = false) (data rest : List (Bit × Nat)) :
    ∀ (i : Nat) (hi : i + data.length = 8) (shift : Byte) (acc : Bit) (t : Nat),
      Timely cfg.atBitTimeout (t :: (data ++ rest).map Prod.snd) →
      ∃ t', Timely cfg.atBitTimeout (t' :: rest.map Prod.snd) ∧
        fallingEdges cfg (data ++ rest) (receivingAt s (.receiving ⟨i, by omega⟩) shift acc false t) =
          fallingEdges cfg rest (receivingAt s (.receiving 8) (setBits shift i (data.map Prod.fst))
            ((data.map Prod.fst).foldl (· ^^ ·) acc) false t') := by
  induction data with
  | nil =>
    intro i hi shift acc t htimely
    obtain rfl : i = 8 := by simpa using hi
    exact ⟨t, htimely, rfl⟩
  | cons e data ih =>
    intro i hi shift acc t htimely
    obtain ⟨b, ts⟩ := e
    have hi8 : i < 8 := by simp at hi; omega
    obtain ⟨hts, hrest⟩ := timely_cons_cons.mp htimely
    obtain ⟨t', htimely', hrun⟩ := ih (i + 1) (by simp at hi; omega) (setBit shift i b) (acc ^^ b) ts hrest
    refine ⟨t', htimely', ?_⟩
    rw [List.cons_append, fallingEdges, lineRead_receivingAt hreleased]
    exact (congrArg _ (onEdge_receivingAt_data hts ⟨i, hi8⟩ b)).trans hrun

/-- The eleven timely edges of an inbound frame up to the stop bit: `RX.STOP` then finds the byte, its parity and the
parity bit (R131 to R134). -/
theorem fallingEdges_inbound {v : Byte} {p stop : Bit} {edges : List (Bit × Nat)} (hidle : s.atBus.st = .idle)
    (hdeadline : s.atBus.deadline = none) (hreleased : s.pins.atDataLow = false) (hbits : edges.map Prod.fst = false :: dataBits v ++ [p, stop])
    (htimely : Timely cfg.atBitTimeout (edges.map Prod.snd)) :
    ∃ t ts, atInTime ts (receivingAt s .parityCheck v (xorBits v) p t) = true ∧
      fallingEdges cfg edges s = rxStop cfg stop ts (receivingAt s .parityCheck v (xorBits v) p t) := by
  obtain ⟨⟨_, t0⟩, edges', rfl, rfl, hbits'⟩ := List.map_eq_cons_iff.mp hbits
  obtain ⟨data, edges'', rfl, hdata, hlast⟩ := List.map_eq_append_iff.mp hbits'
  obtain ⟨⟨p, t9⟩, _, rfl, rfl, hstop⟩ := List.map_eq_cons_iff.mp hlast
  obtain ⟨⟨stop, t10⟩, _, rfl, rfl, hnil⟩ := List.map_eq_cons_iff.mp hstop
  obtain rfl := List.map_eq_nil_iff.mp hnil
  have hlength : 0 + data.length = 8 := by simpa [dataBits] using congrArg List.length hdata
  obtain ⟨t8, htimely8, hrun⟩ := fallingEdges_dataBits hreleased data [(p, t9), (stop, t10)] 0 hlength 0 false t0 htimely
  obtain ⟨ht9, htimely9⟩ := timely_cons_cons.mp htimely8
  obtain ⟨ht10, _⟩ := timely_cons_cons.mp htimely9
  obtain ⟨hedge, htime⟩ := onEdge_receivingAt (s := s) (st := .parityCheck) (shift := v) (acc := xorBits v) (par := p)
    ht10 stop
  refine ⟨t9, t10, htime, ?_⟩
  calc fallingEdges cfg ((false, t0) :: (data ++ [(p, t9), (stop, t10)])) s
      = fallingEdges cfg (data ++ [(p, t9), (stop, t10)]) (receivingAt s (.receiving 0) 0 false false t0) := by
        rw [fallingEdges, hreleased, lineRead_released, onEdge_startBit hidle hdeadline]
    _ = fallingEdges cfg [(p, t9), (stop, t10)] (receivingAt s (.receiving 8) v (xorBits v) false t8) := by
        rw [hdata, setBits_dataBits, foldl_xor_dataBits] at hrun
        exact hrun
    _ = fallingEdges cfg [(stop, t10)] (receivingAt s .parityCheck v (xorBits v) p t9) := by
        rw [fallingEdges, lineRead_receivingAt hreleased, onEdge_receivingAt_parity ht9]
    _ = rxStop cfg stop t10 (receivingAt s .parityCheck v (xorBits v) p t9) := by
        rw [fallingEdges, lineRead_receivingAt hreleased, hedge, edgeByTag_parityCheck rfl, fallingEdges]

/-- A frame that is counted leaves nothing but the count behind. -/
theorem linkResetAt_raise_receivingAt (hlink : s.atBus = ⟨.idle, 0, false, false, none, 0, s.atBus.holdUntil⟩)
    (k : ErrorKind) : linkResetAt (raise cfg k (receivingAt s st shift acc par t)) = raise cfg k (s.withAsleep false) := by
  calc linkResetAt (raise cfg k (receivingAt s st shift acc par t))
      = (raise cfg k (s.withAsleep false)).withAt ⟨.idle, 0, false, false, none, 0, s.atBus.holdUntil⟩ := rfl
    _ = (raise cfg k (s.withAsleep false)).withAt s.atBus := by rw [← hlink]
    _ = raise cfg k (s.withAsleep false) := rfl

/-- A frame that is captured leaves nothing but the Frame behind. -/
theorem linkResetAt_withQ_receivingAt (hlink : s.atBus = ⟨.idle, 0, false, false, none, 0, s.atBus.holdUntil⟩)
    (q : List Frame) : linkResetAt ((receivingAt s st shift acc par t).withQ q) = (s.withAsleep false).withQ q := by
  calc linkResetAt ((receivingAt s st shift acc par t).withQ q)
      = ((s.withAsleep false).withQ q).withAt ⟨.idle, 0, false, false, none, 0, s.atBus.holdUntil⟩ := rfl
    _ = ((s.withAsleep false).withQ q).withAt s.atBus := by rw [← hlink]
    _ = (s.withAsleep false).withQ q := rfl

/-- With a good stop bit the parity received decides, between what the edges before have left (R134). -/
theorem rxStop_receivingAt_good {v : Byte} {p : Bit} (htime : atInTime ts (receivingAt s .parityCheck v acc p t) = true) :
    rxStop cfg true ts (receivingAt s .parityCheck v acc p t) = linkResetAt
      (if acc = p then raise cfg .parity (receivingAt s .parityCheck v acc p t)
       else queuePush cfg ⟨.atProto, v, p, true⟩ (receivingAt s .parityCheck v acc p t)) :=
  rxStop_goodStopBit rfl htime

/-- Everything eleven timely edges from `Idle` that begin with a start bit can do, with room in the queue: the stop bit,
then the parity bit decide (R134, R136). -/
theorem fallingEdges_frame {v : Byte} {p stop : Bit} {edges : List (Bit × Nat)} (h : s.Inv) (hidle : s.atBus.st = .idle)
    (hbits : edges.map Prod.fst = false :: dataBits v ++ [p, stop])
    (htimely : Timely cfg.atBitTimeout (edges.map Prod.snd)) :
    (stop = false → fallingEdges cfg edges s = raise cfg .framing (s.withAsleep false)) ∧
    (stop = true → p ≠ oddParity v → fallingEdges cfg edges s = raise cfg .parity (s.withAsleep false)) ∧
    (stop = true → p = oddParity v → s.q.length < cfg.queueCap →
      fallingEdges cfg edges s = (s.withAsleep false).withQ (s.q ++ [⟨.atProto, v, oddParity v, true⟩])) := by
  have hlink := h.idle_link hidle
  obtain ⟨t, ts, htime, hrun⟩ := fallingEdges_inbound hidle (h.deadlineNone.mpr (.inl hidle))
    (h.dataReleased (by rw [hidle]; rfl)) hbits htimely
  rw [hrun]
  refine ⟨?badStopBit, ?badParity, ?captured⟩
  case badStopBit =>
    rintro rfl
    rw [rxStop_badStopBit rfl htime, linkResetAt_raise_receivingAt hlink]
  case badParity =>
    rintro rfl hparity
    have hequal : xorBits v = p := by simpa [oddParity, eq_comm] using hparity
    rw [rxStop_receivingAt_good htime, if_pos hequal, linkResetAt_raise_receivingAt hlink]
  case captured =>
    rintro rfl rfl hroom
    have hdiffer : xorBits v ≠ oddParity v := by simp [oddParity]
    rw [rxStop_receivingAt_good htime, if_neg hdiffer, queuePush_of_room (c := cfg) (s := receivingAt s _ _ _ _ t) _ hroom]
    exact linkResetAt_withQ_receivingAt hlink _

end

/-- The edges of a wire string, each with its time. -/
theorem map_zip_wire {wire : List Bit} {times : List Nat} (h : wire.length = times.length) :
    (wire.zip times).map Prod.fst = wire ∧ (wire.zip times).map Prod.snd = times :=
  ⟨List.map_fst_zip h.le, List.map_snd_zip h.ge⟩

/-- An inbound wire string with a bad stop bit or a bad parity bit is no frame (R81, R97). -/
theorem decodeAtWire_illegal {v : Byte} {p stop : Bit} (h : stop = false ∨ p ≠ oddParity v) :
    ∃ e, decodeAtWire (false :: dataBits v ++ [p, stop]) = .error e := by
  cases hdec : decodeAtWire (false :: dataBits v ++ [p, stop]) with
  | error e => exact ⟨e, rfl⟩
  | ok w =>
    have hwire := eq_atWire_of_decodeAtWire hdec
    have hbyte : v = w := by
      rw [← byteAt_one false v [p, stop], ← byteAt_one false w [oddParity w, true]]
      exact congrArg (byteAt · 1) hwire
    subst hbyte
    simp [atWire, dataBits] at hwire
    simp [hwire] at h

/-! ### The obligations -/

/-- Settles O17: the wire string of `v` has a good stop bit and the right parity bit. -/
theorem frameCaptureEndToEnd : Obligations.FrameCaptureEndToEnd := by
  intro v times s h hidle hroom hlength htimely
  obtain ⟨hbits, htimes⟩ := map_zip_wire (wire := atWire v) (times := times) (by simp [atWire, dataBits, hlength])
  obtain ⟨_, _, hcaptured⟩ := fallingEdges_frame h hidle hbits (by rw [htimes]; exact htimely)
  exact congrArg Host.Outcome.next (hcaptured rfl rfl hroom)

/-- Settles O18: the string is no frame, so it runs edge by edge (log 21), and its last two bits decide. -/
theorem illegalFrameIsCountedOnce : Obligations.IllegalFrameIsCountedOnce := by
  intro v p stop sch rest s h hidle hpass hlength htimely hinputs
  obtain ⟨hbits, htimes⟩ := map_zip_wire (wire := false :: dataBits v ++ [p, stop]) (times := sch.edges.map Prod.snd)
    (by simp [dataBits, hlength])
  obtain ⟨hbadStop, hbadParity, _⟩ := fallingEdges_frame (s := s.withInputs rest) (inv_withInputs h rest) hidle hbits
    (by rw [htimes]; exact htimely)
  have hstep : stop = false ∨ p ≠ oddParity v → step s = .next (fallingEdges cfg
      ((false :: dataBits v ++ [p, stop]).zip (sch.edges.map Prod.snd)) (s.withInputs rest)) := by
    intro hbad
    obtain ⟨e, he⟩ := decodeAtWire_illegal hbad
    rw [step_input hpass hinputs]
    simp only [fetchInput, fetchFrame, decodeFrame, he]
    rfl
  refine ⟨fun hstop => ?framing, fun hstop hparity => ?parity⟩
  case framing => rw [hstep (.inl hstop), hbadStop hstop]; rfl
  case parity => rw [hstep (.inr hparity), hbadParity hstop hparity]; rfl

end Sys2Proof.Machine
end

section
/-! The outbound AT frame (R157): the request, the release, and the eleven edges at which the transmitter puts out the
data bits, the parity bit and the stop bit and takes the acknowledgment. -/

namespace Sys2Proof.Machine

/-! ### The state in the middle of an outbound frame -/

/-- `s` awake, in the middle of the outbound frame of `v`: the tag, the parity of the bits put out, the level of the data
line, the outputs so far, and the last edge at `t`. -/
def sendingAt (s : State) (v : Byte) (hold : Nat) (st : AtState) (acc dataLow : Bit) (out : List Output) (t : Nat) :
    State :=
  (((s.withAsleep false).withPins { s.pins with atClkLow := false, atDataLow := dataLow }).withTrace
    (s.trace ++ out)).withAt ⟨st, 0, acc, false, some (t + cfg.atAckTimeout), v, hold⟩

section
variable {s : State} {v : Byte} {hold t ts : Nat} {st : AtState} {acc dataLow : Bit} {out : List Output}

/-- An edge no later than the timeout after the one before is in time, whatever data level it carries. -/
theorem onEdge_sendingAt (hts : ts ≤ t + cfg.atAckTimeout) (data : Bit) :
    onEdge cfg false data ts (sendingAt s v hold st acc dataLow out t) =
      edgeByTag cfg data ts (sendingAt s v hold st acc dataLow out t) ∧
    atInTime ts (sendingAt s v hold st acc dataLow out t) = true := by
  have htime : ∀ d, (sendingAt s v hold st acc dataLow out t).atBus.deadline = some d → ts ≤ d := by
    rintro d hd
    cases hd
    exact hts
  exact ⟨onEdge_inTime (expired_eq_false_iff.mpr htime), atInTime_iff.mpr htime⟩

/-- Putting out a bit and moving the tag on, in the state written out (R111). -/
theorem sendBitAt_sendingAt (b acc' : Bit) (st' : AtState) :
    (sendBitAt b (sendingAt s v hold st acc dataLow out t)).withAt ⟨st', 0, acc', false, some (ts + cfg.atAckTimeout), v, hold⟩ =
      sendingAt s v hold st' acc' (!b) (out ++ [.atTxBit b]) ts := by
  rw [sendBitAt_eq]
  simp only [sendingAt, State.withAt_trace, State.withTrace_trace, List.append_assoc]
  rfl

theorem onEdge_sendingAt_data (hts : ts ≤ t + cfg.atAckTimeout) {i : Nat} (hi : i < 8) (data : Bit) :
    onEdge cfg false data ts (sendingAt s v hold (.txSending ⟨i, by omega⟩) acc dataLow out t) =
      sendingAt s v hold (.txSending ⟨i + 1, by omega⟩) (acc ^^ v.getLsbD i) (!v.getLsbD i)
        (out ++ [.atTxBit (v.getLsbD i)]) ts := by
  obtain ⟨hedge, htime⟩ := onEdge_sendingAt (s := s) (v := v) (hold := hold) (st := .txSending ⟨i, by omega⟩)
    (acc := acc) (dataLow := dataLow) (out := out) hts data
  rw [hedge, edgeByTag_txSending rfl, txBit_data (Nat.le_of_lt_succ hi) rfl htime]
  exact sendBitAt_sendingAt _ _ _

theorem onEdge_sendingAt_parity (hts : ts ≤ t + cfg.atAckTimeout) (data : Bit) :
    onEdge cfg false data ts (sendingAt s v hold (.txSending 8) acc dataLow out t) =
      sendingAt s v hold (.txSending 9) acc (!!acc) (out ++ [.atTxBit (!acc)]) ts := by
  obtain ⟨hedge, htime⟩ := onEdge_sendingAt (s := s) (v := v) (hold := hold) (st := .txSending 8)
    (acc := acc) (dataLow := dataLow) (out := out) hts data
  rw [hedge, edgeByTag_txSending rfl, txBit_parity rfl htime]
  exact sendBitAt_sendingAt _ _ _

theorem onEdge_sendingAt_stop (hts : ts ≤ t + cfg.atAckTimeout) (data : Bit) :
    onEdge cfg false data ts (sendingAt s v hold (.txSending 9) acc dataLow out t) =
      sendingAt s v hold .txAwaitAck acc false (out ++ [.atTxBit true]) ts := by
  obtain ⟨hedge, htime⟩ := onEdge_sendingAt (s := s) (v := v) (hold := hold) (st := .txSending 9)
    (acc := acc) (dataLow := dataLow) (out := out) hts data
  rw [hedge, edgeByTag_txSending rfl, txBit_stop rfl htime]
  exact sendBitAt_sendingAt _ _ _

/-- The acknowledgment: the link is reset and the delivery reported (R155). -/
theorem onEdge_sendingAt_ack (hts : ts ≤ t + cfg.atAckTimeout) (data : Bit) :
    onEdge cfg false data ts (sendingAt s v hold .txAwaitAck acc dataLow out t) =
      emit (.atTxDelivered v) (((sendingAt s v hold .txAwaitAck acc dataLow out t).withTxResult .delivered).withAt
        ⟨.idle, 0, false, false, none, 0, hold⟩) := by
  obtain ⟨hedge, htime⟩ := onEdge_sendingAt (s := s) (v := v) (hold := hold) (st := .txAwaitAck)
    (acc := acc) (dataLow := dataLow) (out := out) hts data
  rw [hedge, edgeByTag_txAwaitAck rfl, txAck_inTime rfl htime]
  rfl

/-! ### The edges of the frame -/

/-- The data bits still to come, from index `i` on: each goes out and enters the parity (R154). -/
theorem fallingEdges_sendData (data rest : List (Bit × Nat)) :
    ∀ (i : Nat) (hi : i + data.length = 8) (acc dataLow : Bit) (out : List Output) (t : Nat),
      Timely cfg.atAckTimeout (t :: (data ++ rest).map Prod.snd) →
      ∃ dataLow' t', Timely cfg.atAckTimeout (t' :: rest.map Prod.snd) ∧
        fallingEdges cfg (data ++ rest) (sendingAt s v hold (.txSending ⟨i, by omega⟩) acc dataLow out t) =
          fallingEdges cfg rest (sendingAt s v hold (.txSending 8)
            (((List.range' i data.length).map v.getLsbD).foldl (· ^^ ·) acc) dataLow'
            (out ++ ((List.range' i data.length).map v.getLsbD).map .atTxBit) t') := by
  induction data with
  | nil =>
    intro i hi acc dataLow out t htimely
    obtain rfl : i = 8 := by simpa using hi
    exact ⟨dataLow, t, htimely, by simp⟩
  | cons e data ih =>
    intro i hi acc dataLow out t htimely
    obtain ⟨level, ts⟩ := e
    have hi8 : i < 8 := by simp at hi; omega
    obtain ⟨hts, hrest⟩ := timely_cons_cons.mp htimely
    obtain ⟨dataLow', t', htimely', hrun⟩ := ih (i + 1) (by simp at hi; omega) (acc ^^ v.getLsbD i) (!v.getLsbD i)
      (out ++ [.atTxBit (v.getLsbD i)]) ts hrest
    refine ⟨dataLow', t', htimely', ?_⟩
    rw [List.cons_append, fallingEdges, onEdge_sendingAt_data hts hi8, hrun]
    simp [List.range'_succ]

theorem dataBits_eq_map_range' (v : Byte) : dataBits v = (List.range' 0 8).map v.getLsbD := rfl

/-- The eleven timely edges after the release: the data bits, the parity bit and the stop bit go out, and the last edge
is the acknowledgment (R154, R155). -/
theorem fallingEdges_outbound {edges : List (Bit × Nat)} (hlength : edges.length = 11)
    (htimely : Timely cfg.atAckTimeout (t :: edges.map Prod.snd)) :
    fallingEdges cfg edges (sendingAt s v hold (.txSending 0) false true [] t) =
      ((((s.withAsleep false).withPins { s.pins with atClkLow := false, atDataLow := false }).withTxResult .delivered).withTrace
        (s.trace ++ ((dataBits v ++ [oddParity v, true]).map Output.atTxBit ++ [.atTxDelivered v]))).withAt
        ⟨.idle, 0, false, false, none, 0, hold⟩ := by
  have hdata : 0 + (edges.take 8).length = 8 := by simp [hlength]
  match hlast : edges.drop 8, (by simp [hlength] : (edges.drop 8).length = 3) with
  | [(d8, t8), (d9, t9), (d10, t10)], _ =>
    have hedges : edges.take 8 ++ [(d8, t8), (d9, t9), (d10, t10)] = edges := by rw [← hlast, List.take_append_drop]
    rw [← hedges] at htimely ⊢
    obtain ⟨dataLow, t7, htimely7, hrun⟩ := fallingEdges_sendData (s := s) (v := v) (hold := hold) (edges.take 8)
      [(d8, t8), (d9, t9), (d10, t10)] 0 hdata false true [] t htimely
    obtain ⟨ht8, htimely8⟩ := timely_cons_cons.mp htimely7
    obtain ⟨ht9, htimely9⟩ := timely_cons_cons.mp htimely8
    obtain ⟨ht10, _⟩ := timely_cons_cons.mp htimely9
    rw [show (edges.take 8).length = 8 by simp [hlength], ← dataBits_eq_map_range', foldl_xor_dataBits] at hrun
    refine hrun.trans ?_
    simp only [fallingEdges]
    rw [onEdge_sendingAt_parity ht8, onEdge_sendingAt_stop ht9, onEdge_sendingAt_ack ht10, emit_eq,
      show (!xorBits v) = oddParity v by simp [oddParity]]
    simp only [sendingAt, State.withAt_trace, State.withTxResult_trace, State.withTrace_trace, List.append_assoc,
      List.map_append, List.map_cons, List.map_nil, List.cons_append, List.nil_append]
    rfl

end

/-! ### The request and the release -/

/-- A byte in flight on an idle link is requested, and released once the hold time is over; the next edge finds the
start bit on the line (R151, R152). -/
theorem txRelease_txRequest {s : State} {k : Command} {ks : List Command} {tReq tRel : Nat} (h : s.Inv)
    (hidle : s.atBus.st = .idle) (hreport : s.txResult = .none) (hq : s.cmdQ = k :: ks)
    (hhold : tReq + cfg.atReqHold ≤ tRel) :
    (txRelease cfg tRel (txRequest cfg true tReq s)).withAsleep false =
      sendingAt s k.first (tReq + cfg.atReqHold) (.txSending 0) false true [] tRel := by
  have hrequest : txRequest cfg true tReq s = (s.withPins { s.pins with atClkLow := true }).withAt
      ⟨.txHold, 0, false, false, none, k.first, tReq + cfg.atReqHold⟩ := by
    rw [txRequest_ready hq hidle hreport rfl, h.idle_link hidle]
  rw [hrequest, txRelease_held rfl hhold, sendingAt, List.append_nil]
  rfl

/-- On an idle link the core pulls neither line low (R49 (iv), (v)). -/
theorem State.Inv.idle_pins {s : State} (h : s.Inv) (hidle : s.atBus.st = .idle) :
    { s.pins with atClkLow := false, atDataLow := false } = s.pins := by
  have hclk : s.pins.atClkLow = false := Bool.eq_false_iff.mpr fun hheld => by
    rw [h.clockHeld.mp hheld] at hidle
    cases hidle
  have hdata : s.pins.atDataLow = false := h.dataReleased (by rw [hidle]; rfl)
  calc { s.pins with atClkLow := false, atDataLow := false }
      = { s.pins with atClkLow := s.pins.atClkLow, atDataLow := s.pins.atDataLow } := by rw [hclk, hdata]
    _ = s.pins := rfl

/-! ### The obligation -/

/-- Settles O25: the whole frame is `fallingEdges_outbound`; in a sound state the idle link drives neither line, so the
pins end as they were. -/
theorem outboundFrameEndToEnd : Obligations.OutboundFrameEndToEnd := by
  intro v tReq tRel edges k ks s h hidle hreport hq hv hhold hlength htimely
  subst hv
  have hne : edges ≠ [] := by rintro rfl; cases hlength
  have hguard : byteInFlight s = some k.first ∧ s.atBus.st = .idle ∧ s.txResult = .none :=
    ⟨by simp [byteInFlight, hq], hidle, hreport⟩
  change Host.Outcome.next (sendFrame cfg k.first tReq tRel edges s) = _
  rw [sendFrame, if_pos hguard, ← fallingEdges_withAsleep hne false, txRelease_txRequest h hidle hreport hq hhold,
    fallingEdges_outbound hlength htimely, h.idle_pins hidle]
  rfl

end Sys2Proof.Machine
end

section
/-! Whole XT frames and suspensions (R173, R174): the passes over a byte, by induction on the bits still to be sent, and
the inhibited passes that leave only the time of the first behind. -/

namespace Sys2Proof.Machine

/-! ### The passes of a frame -/

/-- Each time is at least a period after the one before it. -/
def Spaced (period : Nat) (times : List Nat) : Prop := List.IsChain (fun a b => a + period ≤ b) times

theorem spaced_cons_cons {period a b : Nat} {times : List Nat} :
    Spaced period (a :: b :: times) ↔ a + period ≤ b ∧ Spaced period (b :: times) := List.isChain_cons_cons

/-- `s` after the byte has gone out: idle, the data line released, the outputs appended, and the next byte's first bit no
earlier than a period after the last. -/
def sentAt (c : Cfg) (s : State) (out : List Output) (last : Nat) : State :=
  ((s.withPins { s.pins with xtClkOut := true, xtDataOut := true }).withTrace (s.trace ++ out)).withXt
    ⟨.idle, 0, s.xtBus.parAcc, last + c.xtBitPeriod, none⟩

section
variable {c : Cfg} {s : State} {p ts : Nat}

/-- A bit that is not the last goes out, and what the rest of the byte does from there it does to `s`: the two states
differ in what the end of the byte writes again. -/
theorem sentAt_xtStep_bit (hst : s.xtBus.st = .sending p) (htime : s.xtBus.nextBitAt ≤ ts)
    (hmore : p + 1 ≠ xtFrameLen c.xtFrameBits) (out : List Output) (last : Nat) :
    sentAt c (xtStep c true ts s) out last =
      sentAt c s (.xtBit (xtFrameBit c.xtFrameBits s.xtBus.shift p) :: out) last := by
  rw [xtStep_sendsBit hst htime hmore, sendBitXt_eq]
  simp only [sentAt, State.withXt_trace, State.withTrace_trace, List.append_assoc, List.singleton_append]
  rfl

theorem xtStep_last (hst : s.xtBus.st = .sending p) (htime : s.xtBus.nextBitAt ≤ ts)
    (hlast : p + 1 = xtFrameLen c.xtFrameBits) :
    xtStep c true ts s =
      sentAt c s [.xtBit (xtFrameBit c.xtFrameBits s.xtBus.shift p), .xtByte s.xtBus.shift] ts := by
  rw [xtStep_sendsLastBit hst htime hlast, emit_eq, xtRelease_eq, sendBitXt_eq]
  simp only [sentAt, State.withXt_trace, State.withPins_trace, State.withTrace_trace, List.append_assoc]
  rfl

/-- Free passes a bit period apart, one for each bit from position `p` on: the bits go out in order, and the byte ends
(R172). -/
theorem xtPasses_sendRest (times : List Nat) : ∀ (p first : Nat) (s : State), s.xtBus.st = .sending p →
    s.xtBus.nextBitAt ≤ first → p + (times.length + 1) = xtFrameLen c.xtFrameBits →
    Spaced c.xtBitPeriod (first :: times) →
    xtPasses c ((first :: times).map fun ts => (true, ts)) s = sentAt c s
      (((List.range' p (times.length + 1)).map (xtFrameBit c.xtFrameBits s.xtBus.shift)).map .xtBit ++
        [.xtByte s.xtBus.shift]) ((first :: times).getLast nofun) := by
  induction times with
  | nil =>
    intro p first s hst htime hlen _
    simpa [xtPasses] using xtStep_last hst htime (by simpa using hlen)
  | cons next times ih =>
    intro p first s hst htime hlen hspaced
    rw [List.length_cons] at hlen
    obtain ⟨hnext, hrest⟩ := spaced_cons_cons.mp hspaced
    have hmore : p + 1 ≠ xtFrameLen c.xtFrameBits := by omega
    have hstep := xtStep_sendsBit hst htime hmore
    have hrun := ih (p + 1) next (xtStep c true first s) (by rw [hstep]; rfl) (by rw [hstep]; exact hnext) (by omega) hrest
    rw [sentAt_xtStep_bit hst htime hmore, hstep] at hrun
    rw [List.map_cons, xtPasses, hstep, hrun, List.length_cons, List.range'_succ]
    rfl

/-- The frame of `v` over free passes at the given times: it goes out in a core built for its length, and has no effect
in another (R173, log 25). -/
theorem transmitFrame_free {n : XtFrameBits} {v : Byte} {times : List Nat} {first last : Nat}
    (hidle : s.xtBus.st = .idle) (hlength : times.length = xtFrameLen n) (hfirst : times.head? = some first)
    (hlast : times.getLast? = some last) (htime : s.xtBus.nextBitAt ≤ first) (hspaced : Spaced c.xtBitPeriod times) :
    transmitFrame c n v (times.map fun ts => (true, ts)) s = if c.xtFrameBits = n then sentAt c s
      (((List.range (xtFrameLen n)).map (xtFrameBit n v)).map .xtBit ++ [.xtByte v]) last else s := by
  split
  next hbits =>
    subst hbits
    obtain ⟨times, rfl⟩ := List.head?_eq_some_iff.mp hfirst
    rw [List.getLast?_eq_some_getLast (List.cons_ne_nil _ _), Option.some.injEq] at hlast
    rw [List.length_cons] at hlength
    have hrun := xtPasses_sendRest (c := c) times 0 first (xtLoad v s) (by rw [xtLoad_idle hidle]; rfl)
      (by rw [xtLoad_idle hidle]; exact htime) (by omega) hspaced
    rw [xtLoad_idle hidle] at hrun
    rw [transmitFrame, if_pos ⟨rfl, hidle⟩, xtLoad_idle hidle, hrun, hlast, ← hlength, List.range_eq_range']
    rfl
  next hbits => rw [transmitFrame, if_neg fun hguard => hbits hguard.1]

end

/-! ### Suspension -/

theorem xtStep_free {c : Cfg} {s : State} {p ts : Nat} (hst : s.xtBus.st = .sending p) :
    xtStep c true ts s = xtAdvance c p ts s := by
  simp [xtStep, hst, isInhibited]

/-- A free pass forgets when a stall began (R172). -/
theorem xtStep_free_withSince {c : Cfg} {s : State} {p ts : Nat} (hst : s.xtBus.st = .sending p) (since : Option Nat) :
    xtStep c true ts (s.withXt { s.xtBus with inhibitSince := since }) = xtStep c true ts s := by
  calc xtStep c true ts (s.withXt { s.xtBus with inhibitSince := since })
      = xtAdvance c p ts (s.withXt { s.xtBus with inhibitSince := since }) := xtStep_free hst
    _ = xtAdvance c p ts s := rfl
    _ = xtStep c true ts s := (xtStep_free hst).symm

/-- Inhibited passes within the maximum wait leave a stall as it is (R172). -/
theorem xtPasses_stallLasts {c : Cfg} {s : State} {p first : Nat} (hst : s.xtBus.st = .sending p)
    (hsince : s.xtBus.inhibitSince = some first) (stalls : List Nat)
    (hwait : ∀ t ∈ stalls, t - first ≤ c.xtInhibitMaxWait) :
    xtPasses c (stalls.map fun t => (false, t)) s = s := by
  induction stalls with
  | nil => rfl
  | cons t stalls ih =>
    obtain ⟨ht, hrest⟩ := List.forall_mem_cons.mp hwait
    rw [List.map_cons, xtPasses, xtStep_stallLasts hst hsince ht]
    exact ih hrest

/-! ### The obligations -/

/-- Settles O29: the nine bits of `xt_frame_bit` are the wire string. -/
theorem xtFrame9EndToEnd : Obligations.XtFrame9EndToEnd := by
  intro v times first last s hidle hlength hfirst hlast htime hspaced
  change Host.Outcome.next (transmitFrame cfg .nine v _ s) = _
  rw [transmitFrame_free hidle hlength hfirst hlast htime hspaced, xtFrameLen, ← xtWire9_eq]
  rfl

/-- Settles O30: as O29, with the ten bits. -/
theorem xtFrame10EndToEnd : Obligations.XtFrame10EndToEnd := by
  intro v times first last s hidle hlength hfirst hlast htime hspaced
  change Host.Outcome.next (transmitFrame cfg .ten v _ s) = _
  rw [transmitFrame_free hidle hlength hfirst hlast htime hspaced, xtFrameLen, ← xtWire10_eq]
  rfl

/-- Settles O31: the first inhibited pass leaves its time, the others nothing, and the free pass forgets the time. -/
theorem suspensionIsIdempotent : Obligations.SuspensionIsIdempotent := by
  intro p first stalls ts s hst hsince hwait
  rw [exec_xtStep, exec_xtStep, List.map_cons, xtPasses, xtStep_stallBegins hst hsince,
    xtPasses_stallLasts (p := p) (first := first) ?sending ?since stalls hwait, xtStep_free_withSince hst]
  case sending => exact hst
  case since => rfl

end Sys2Proof.Machine
end

section
/-! The command bridge as a whole (R89, R202): the two command bytes, what the service leaves alone, and the one report it
cannot consume. -/

namespace Sys2Proof.Machine

/-! ### What the service leaves alone -/

/-- What `BR.SERVICE` does not touch: the Frame Queue, the XT side, the low-power wait, and every counter but the one of
failed commands (R202). -/
structure State.ServiceKeeps (s t : State) : Prop extends s.Keeps t where
  xtBus : t.xtBus = s.xtBus
  q : t.q = s.q
  xtPending : t.xtPending = s.xtPending
  asleep : t.asleep = s.asleep
  xtClkOut : t.pins.xtClkOut = s.pins.xtClkOut
  xtDataOut : t.pins.xtDataOut = s.pins.xtDataOut
  otherErrors : ∀ k, k ≠ .commandDeliveryFailed → t.err.get k = s.err.get k

theorem State.ServiceKeeps.trans {s t u : State} (hst : s.ServiceKeeps t) (htu : t.ServiceKeeps u) :
    s.ServiceKeeps u where
  toKeeps := hst.toKeeps.trans htu.toKeeps
  xtBus := htu.xtBus.trans hst.xtBus
  q := htu.q.trans hst.q
  xtPending := htu.xtPending.trans hst.xtPending
  asleep := htu.asleep.trans hst.asleep
  xtClkOut := htu.xtClkOut.trans hst.xtClkOut
  xtDataOut := htu.xtDataOut.trans hst.xtDataOut
  otherErrors := fun k hk => (htu.otherErrors k hk).trans (hst.otherErrors k hk)

theorem State.ServiceKeeps.refl (s : State) : s.ServiceKeeps s :=
  ⟨.refl s, rfl, rfl, rfl, rfl, rfl, rfl, fun _ _ => rfl⟩

/-- A consumed report leaves none behind (R202). -/
theorem consumeReport_clears {s t : State} (h : consumeReport cfg s = some t) :
    s.ServiceKeeps t ∧ t.txResult = .none := by
  have hkeep := keeps_consumeReport h
  obtain ⟨hreport, rfl⟩ | ⟨k, ks, _, _, _, rfl⟩ | ⟨k, ks, b, bs, _, _, _, rfl⟩ | ⟨_, _, rfl⟩ | ⟨_, _, rfl⟩ :=
    consumeReport_cases cfg s t h
  · exact ⟨.refl _, hreport⟩
  · cases hkind : k.kind with
    | setLeds =>
      rw [commandComplete_setLeds hkind] at hkeep ⊢
      exact ⟨⟨hkeep, rfl, rfl, rfl, rfl, rfl, rfl, fun _ _ => rfl⟩, rfl⟩
    | reset =>
      rw [commandComplete_reset hkind] at hkeep ⊢
      exact ⟨⟨hkeep, rfl, rfl, rfl, rfl, rfl, rfl, fun _ _ => rfl⟩, rfl⟩
  · exact ⟨⟨hkeep, rfl, rfl, rfl, rfl, rfl, rfl, fun _ _ => rfl⟩, rfl⟩
  · exact ⟨⟨hkeep, rfl, rfl, rfl, rfl, rfl, rfl, fun _ hk => Counters.get_bump_other _ _ hk⟩, rfl⟩
  · exact ⟨⟨hkeep, rfl, rfl, rfl, rfl, rfl, rfl, fun _ _ => rfl⟩, rfl⟩

theorem advanceTransmitter_keepsReport (atClk : Bit) (ts : Nat) (s : State) :
    s.ServiceKeeps (advanceTransmitter cfg atClk ts s) ∧ (advanceTransmitter cfg atClk ts s).txResult = s.txResult := by
  have hkeep := keeps_advanceTransmitter s ts atClk
  obtain ⟨_, e⟩ | ⟨_, e⟩ := advanceTransmitter_cases cfg atClk ts s <;> rw [e] at hkeep ⊢
  · obtain ⟨_, e⟩ | ⟨_, _, e⟩ := txRelease_cases cfg ts s <;> rw [e] at hkeep ⊢
    · exact ⟨.refl s, rfl⟩
    · exact ⟨⟨hkeep, rfl, rfl, rfl, rfl, rfl, rfl, fun _ _ => rfl⟩, rfl⟩
  · obtain e | ⟨k, ks, _, _, _, _, e⟩ := txRequest_cases cfg atClk ts s <;> rw [e] at hkeep ⊢
    · exact ⟨.refl s, rfl⟩
    · exact ⟨⟨hkeep, rfl, rfl, rfl, rfl, rfl, rfl, fun _ _ => rfl⟩, rfl⟩

/-- Both halves of the service keep what it leaves alone, and no report is left waiting. -/
theorem brService_clears {s t : State} {atClk : Bit} {ts : Nat} (h : brService cfg atClk ts s = some t) :
    s.ServiceKeeps t ∧ t.txResult = .none := by
  obtain ⟨u, hu, rfl⟩ := Option.map_eq_some_iff.mp h
  obtain ⟨hconsumed, hnone⟩ := consumeReport_clears hu
  obtain ⟨hadvanced, hreport⟩ := advanceTransmitter_keepsReport atClk ts u
  exact ⟨hconsumed.trans hadvanced, hreport.trans hnone⟩

/-! ### The instructions -/

theorem exec_brService (atClk : Bit) (ts : Nat) (s : State) :
    exec (.brService atClk ts) s = serviced (brService cfg atClk ts s) := rfl

theorem exec_cmdSetLeds (s : State) : exec .cmdSetLeds s =
    .next (queueCommand cfg ⟨.setLeds, 0xED#8, [s.tr.ind]⟩ (s.withAsleep false)) := rfl

/-- The reset command byte asks for what the host's reset request asks for (log 11). -/
theorem exec_cmdReset (s : State) : exec .cmdReset s = exec .brReset s := rfl

/-- A delivery with no command queued is a report about nothing (R202, V9). -/
theorem consumeReport_noCommand {c : Cfg} {s : State} (hreport : s.txResult = .delivered) (hq : s.cmdQ = []) :
    consumeReport c s = none := by
  simp [consumeReport, hreport, reportDelivered, hq]

/-! ### The obligations -/

/-- Settles O44: the service completes (`brService_completes`), and `brService_clears` is its frame. -/
theorem serviceCompletesAndFrame : Obligations.ServiceCompletesAndFrame := by
  intro atClk ts s h
  obtain ⟨t, ht, hinv⟩ := h.brService_completes atClk ts
  obtain ⟨hkeep, hnone⟩ := brService_clears ht
  exact ⟨t, serviced_eq_next.mpr ht, hinv, hnone, hkeep.xtBus, hkeep.q, hkeep.xtPending, hkeep.atClkPrev, hkeep.asleep,
    hkeep.xtClkOut, hkeep.xtDataOut, hkeep.otherErrors, hkeep.inputs, hkeep.pass, hkeep.ret⟩

/-- Settles O42: the reset byte by O41; the "set LEDs" byte by the same two sides of the queue. -/
theorem commandBytesQueueTheirCommand : Obligations.CommandBytesQueueTheirCommand := by
  intro s
  obtain ⟨hresetQueued, hresetCounted⟩ := brResetQueuesReset s
  rw [← exec_cmdReset] at hresetQueued hresetCounted
  refine ⟨fun hroom => ⟨?ledsQueued, hresetQueued hroom⟩, fun hfull => ?counted⟩
  case ledsQueued => rw [exec_cmdSetLeds, queueCommand_of_room _ hroom]; rfl
  case counted =>
    refine List.forall_mem_cons.mpr ⟨?_, List.forall_mem_singleton.mpr (hresetCounted hfull)⟩
    rw [exec_cmdSetLeds, queueCommand_of_full _ hfull, raise_eq]
    rfl

/-- Settles O45. -/
theorem reportWithoutCommandStops : Obligations.ReportWithoutCommandStops := by
  intro atClk ts s hreport hq
  rw [exec_brService, brService, consumeReport_noCommand hreport hq]
  rfl

end Sys2Proof.Machine
end

section
/-! A pass of the Dispatch Loop (R226, R227): its steps one after the other. -/

namespace Sys2Proof.Machine

/-! ### The steps of a pass -/

/-- The loop takes the output from `ret` and puts back what stood there (log 5). -/
theorem State.withXtPending_eq_of_ret {s : State} {r : Returned} {xs : List Byte} {ret : Returned} (h : s.ret = ret) :
    s.withXtPending xs = { s.withRet r with xtPending := xs, ret := ret } := by
  rw [← h]
  rfl

section
variable {s : State}

theorem pollDeadline_inTime {ts : Nat} (h : ∀ d, s.atBus.deadline = some d → ts ≤ d) : pollDeadline cfg ts s = s := by
  rw [pollDeadline, if_neg (by rw [expired_eq_false_iff.mpr h]; exact nofun)]

/-- An expired deadline is handled by the timeout of the direction of the frame (R226). -/
theorem exec_poll {ts : Nat} (h : expired s.atBus.deadline ts = true) :
    exec (if s.atBus.st.isFrameReceive then .rxTimeout ts else .txTimeout ts) s = .next (pollDeadline cfg ts s) := by
  rw [pollDeadline, if_pos h]
  split <;> rfl

/-- The operation of R190 for a payload byte, as the spec names it. -/
def translation (b : Byte) (s : State) : Instr :=
  if b = 0xE0#8 then .xlPrefixE0
  else if b = 0xF0#8 then .xlPrefixF0
  else match cfg.xlat s.tr.ext s.tr.brk b with
    | some xs => .xlData b xs
    | none => .xlUnknown b

/-- The operation is told by the byte, and for a data byte by the table's answer (R190). -/
theorem translation_cases (b : Byte) (s : State) :
    (b = 0xE0#8 → translation b s = .xlPrefixE0) ∧ (b = 0xF0#8 → translation b s = .xlPrefixF0) ∧
    (b ≠ 0xE0#8 → b ≠ 0xF0#8 →
      (∀ xs, cfg.xlat s.tr.ext s.tr.brk b = some xs → translation b s = .xlData b xs) ∧
      (cfg.xlat s.tr.ext s.tr.brk b = none → translation b s = .xlUnknown b)) := by
  refine ⟨fun hE0 => by simp [translation, hE0], fun hF0 => by simp [translation, hF0], fun hE0 hF0 => ⟨?_, ?_⟩⟩
  · intro xs hxlat
    simp [translation, hE0, hF0, hxlat]
  · intro hxlat
    simp [translation, hE0, hF0, hxlat]

theorem exec_translation (b : Byte) (s : State) : exec (translation b s) s = returning (translate cfg b s) := by
  unfold translation
  split
  next hE0 => rw [hE0]; rfl
  next hE0 =>
    split
    next hF0 => rw [hF0]; rfl
    next hF0 =>
      have hdata : isPrefixByte b = false := isPrefixByte_eq_false_iff.mpr ⟨hE0, hF0⟩
      cases hxlat : cfg.xlat s.tr.ext s.tr.brk b with
      | some xs => rw [translate_entry hE0 hF0 hxlat]; exact runXlData_answered hdata hxlat
      | none => rw [translate_noEntry hE0 hF0 hxlat]; exact runXlUnknown_noEntry hdata hxlat

theorem popAndTranslate_ready {f : Frame} {rest : List Frame} (hidle : s.xtBus.st = .idle) (hpending : s.xtPending = [])
    (hq : s.q = f :: rest) : popAndTranslate cfg s =
      (translate cfg f.payload (s.withQ rest)).2.withXtPending (translate cfg f.payload (s.withQ rest)).1 := by
  rw [popAndTranslate, if_pos ⟨hidle, hpending⟩, queuePop_of_cons hq]

theorem popAndTranslate_not_ready (h : s.xtBus.st ≠ .idle ∨ s.xtPending ≠ [] ∨ s.q = []) :
    popAndTranslate cfg s = s := by
  obtain hkeep | ⟨f, rest, hidle, hpending, hq, _⟩ := popAndTranslate_cases cfg s
  · exact hkeep
  · simp [hidle, hpending, hq] at h

theorem loadPending_ready {b : Byte} {rest : List Byte} (hidle : s.xtBus.st = .idle) (hpending : s.xtPending = b :: rest) :
    loadPending s = (xtLoad b s).withXtPending rest := by
  simp [loadPending, hpending, hidle]

theorem loadPending_not_ready (h : s.xtBus.st ≠ .idle ∨ s.xtPending = []) : loadPending s = s := by
  obtain hkeep | ⟨b, rest, hpending, hidle, _⟩ := loadPending_cases s
  · exact hkeep
  · simp [hidle, hpending] at h

/-- The test of R227, clause by clause. -/
theorem quiescent_iff : quiescent s = true ↔ s.q = [] ∧ s.xtPending = [] ∧ s.cmdQ = [] ∧ s.xtBus.st = .idle ∧
    s.atBus.st = .idle ∧ s.txResult = .none := by
  simp [quiescent, and_assoc]

end

/-! ### The whole pass -/

theorem exec_dispatchPass (atClk atData xtClk : Bit) (ts : Nat) (s : State) :
    exec (.dispatchPass atClk atData xtClk ts) s = serviced (dispatchPass cfg atClk atData xtClk ts s) := rfl

theorem dispatchPass_asleep {atClk atData xtClk : Bit} {ts : Nat} {s : State} (h : s.asleep = true) :
    dispatchPass cfg atClk atData xtClk ts s = some s := by
  rw [dispatchPass, if_pos h]

theorem dispatchPass_awake {atClk atData xtClk : Bit} {ts : Nat} {s : State} (h : s.asleep = false) :
    dispatchPass cfg atClk atData xtClk ts s =
      (brService cfg atClk ts (xtStep cfg xtClk ts (loadPending (popAndTranslate cfg (pollDeadline cfg ts s))))).map
        goToSleep := by
  rw [dispatchPass, if_neg (by rw [h]; exact nofun)]

/-- Settles O48: the states on the way are those the steps of the pass lead to, each by its own equation. -/
theorem passCompletesAndSleepsWhenQuiescent : Obligations.PassCompletesAndSleepsWhenQuiescent := by
  intro atClk atData xtClk ts s
  refine ⟨fun hasleep => by rw [exec_dispatchPass, dispatchPass_asleep hasleep]; rfl, fun h hawake => ?_⟩
  obtain ⟨t, ht, htinv⟩ := h.dispatchPass_completes atClk atData xtClk ts
  have hkeep := keeps_dispatchPass ht
  have hrun : exec (.dispatchPass atClk atData xtClk ts) s = .next t := serviced_eq_next.mpr ht
  rw [dispatchPass_awake hawake] at ht
  obtain ⟨s4, hservice, rfl⟩ := Option.map_eq_some_iff.mp ht
  refine ⟨pollDeadline cfg ts s, popAndTranslate cfg (pollDeadline cfg ts s),
    loadPending (popAndTranslate cfg (pollDeadline cfg ts s)),
    xtStep cfg xtClk ts (loadPending (popAndTranslate cfg (pollDeadline cfg ts s))), s4, goToSleep s4,
    fun d hd hlate => ?polled, pollDeadline_inTime, fun f rest hidle hpending hq => ?translated,
    popAndTranslate_not_ready, fun b rest hidle hpending => ?loaded, loadPending_not_ready, fun _ => rfl,
    fun hidle => xtStep_idle xtClk hidle, serviced_eq_next.mpr hservice, hrun, rfl, quiescent_iff, htinv, hkeep.atClkPrev,
    hkeep.inputs, hkeep.pass, hkeep.ret⟩
  case polled => exact exec_poll (by simpa [hd, expired_some] using hlate)
  case translated =>
    obtain ⟨hE0, hF0, hdata⟩ := translation_cases f.payload ((pollDeadline cfg ts s).withQ rest)
    refine ⟨_, _, _, exec_qPop_of_cons hq, hE0, hF0, hdata, exec_translation f.payload _, rfl, ?_⟩
    rw [popAndTranslate_ready hidle hpending hq]
    exact State.withXtPending_eq_of_ret (keeps_translate ((pollDeadline cfg ts s).withQ rest) f.payload).ret
  case loaded => exact ⟨_, exec_xtLoad b _, loadPending_ready hidle hpending⟩

end Sys2Proof.Machine
end

section
/-! The interruptible pass against the whole one (R72, R226, log 6): the operations of a pass do not look at the place of
the pass, so each step of the interruptible pass is one step of the whole one. -/

namespace Sys2Proof.Machine

/-! ### The operations of a pass do not look at its place -/

section
variable (c : Cfg) (s : State) (x : Option PassPosition) (ts : Nat)

theorem rxTimeout_withPass : rxTimeout c ts (s.withPass x) = (rxTimeout c ts s).withPass x := by
  unfold rxTimeout
  rw [State.withPass_atBus]
  split <;> rfl

theorem txTimeout_withPass : txTimeout c ts (s.withPass x) = (txTimeout c ts s).withPass x := by
  unfold txTimeout
  rw [State.withPass_atBus]
  split <;> rfl

theorem pollDeadline_withPass : pollDeadline c ts (s.withPass x) = (pollDeadline c ts s).withPass x := by
  unfold pollDeadline
  rw [State.withPass_atBus, rxTimeout_withPass, txTimeout_withPass]
  split
  · split <;> rfl
  · rfl

theorem xtLoad_withPass (b : Byte) : xtLoad b (s.withPass x) = (xtLoad b s).withPass x := by
  unfold xtLoad
  rw [State.withPass_xtBus]
  split <;> rfl

theorem xtStalled_withPass : xtStalled c ts (s.withPass x) = (xtStalled c ts s).withPass x := by
  unfold xtStalled
  rw [State.withPass_xtBus]
  split
  · rfl
  · split <;> rfl

theorem xtAdvance_withPass (p : Nat) : xtAdvance c p ts (s.withPass x) = (xtAdvance c p ts s).withPass x := by
  unfold xtAdvance
  rw [State.withPass_xtBus]
  dsimp only
  split
  · split <;> rfl
  · rfl

theorem xtStep_withPass (xtClk : Bit) : xtStep c xtClk ts (s.withPass x) = (xtStep c xtClk ts s).withPass x := by
  unfold xtStep
  rw [State.withPass_xtBus]
  split
  · rfl
  · cases xtClk
    · exact xtStalled_withPass c s x ts
    · exact xtAdvance_withPass c s x ts _

theorem commandComplete_withPass (k : Command) (ks : List Command) :
    commandComplete k ks (s.withPass x) = (commandComplete k ks s).withPass x := by
  unfold commandComplete
  dsimp only
  split <;> rfl

theorem consumeReport_withPass :
    consumeReport c (s.withPass x) = (consumeReport c s).map fun t => t.withPass x := by
  unfold consumeReport
  rw [State.withPass_txResult]
  split
  · rfl
  · unfold reportDelivered
    rw [State.withPass_cmdQ]
    split
    · rfl
    · dsimp only
      split
      · exact congrArg some (commandComplete_withPass
          (((s.withTxResult .none).withCmdAttempts 0).withKbdUnresponsive false) x _ _)
      · rfl
  · unfold reportFailed
    dsimp only
    rw [State.withPass_cmdAttempts]
    split <;> rfl

theorem txRelease_withPass : txRelease c ts (s.withPass x) = (txRelease c ts s).withPass x := by
  unfold txRelease
  rw [State.withPass_atBus]
  split <;> rfl

theorem txRequest_withPass (atClk : Bit) : txRequest c atClk ts (s.withPass x) = (txRequest c atClk ts s).withPass x := by
  unfold txRequest
  rw [State.withPass_cmdQ]
  split
  · rfl
  · change (if s.atBus.st = .idle ∧ s.txResult = .none ∧ (!isInhibited .atBus atClk s) = true then _ else _) = _
    split <;> rfl

theorem advanceTransmitter_withPass (atClk : Bit) :
    advanceTransmitter c atClk ts (s.withPass x) = (advanceTransmitter c atClk ts s).withPass x := by
  unfold advanceTransmitter
  rw [State.withPass_atBus]
  split
  · exact txRelease_withPass c s x ts
  · exact txRequest_withPass c s x ts atClk

theorem brService_withPass (atClk : Bit) :
    brService c atClk ts (s.withPass x) = (brService c atClk ts s).map fun t => t.withPass x := by
  unfold brService
  rw [consumeReport_withPass, Option.map_map, Option.map_map]
  exact congrArg (Option.map · _) (funext fun t => advanceTransmitter_withPass c t x ts atClk)

/-- Translation does not look at the returned value either. -/
theorem translate_withRet_withPass (b : Byte) (r : Returned) :
    translate c b ((s.withRet r).withPass x) = ((translate c b s).1, ((translate c b s).2.withRet r).withPass x) := by
  unfold translate
  split
  · rfl
  · split
    · rfl
    · rw [State.withPass_tr, State.withRet_tr]
      split <;> rfl

end

theorem State.withRet_self {s : State} {r : Returned} (h : s.ret = r) : s.withRet r = s := by
  rw [← h]
  rfl

theorem State.withPass_self {s : State} {x : Option PassPosition} (h : s.pass = x) : s.withPass x = s := by
  rw [← h]
  rfl

/-! ### The stages -/

/-- `v` at a stage of the pass `p`. -/
def atStage (v : State) (p : PassPosition) (stage : PassStage) : State := v.withPass (some { p with stage := stage })

/-- A stage that runs its operation. -/
theorem step_ran {v u : State} {p : PassPosition} {stage : PassStage} {i : Instr} (hinputs : v.inputs = [])
    (hstage : stageInstr cfg { p with stage := stage } (atStage v p stage) = some i)
    (hexec : exec i (atStage v p stage) = .next u) :
    step (atStage v p stage) = .next (afterStage true { p with stage := stage } u) := by
  rw [step_loop (s := atStage v p stage) (p := { p with stage := stage }) rfl hinputs]
  simp only [fetchMainLoop, hstage, runFetched, hexec, finish]

/-- A stage whose condition does not hold is passed over. -/
theorem step_skipped {v : State} {p : PassPosition} {stage : PassStage} (hinputs : v.inputs = [])
    (hstage : stageInstr cfg { p with stage := stage } (atStage v p stage) = none) :
    step (atStage v p stage) = .next (afterStage false { p with stage := stage } (atStage v p stage)) := by
  rw [step_loop (s := atStage v p stage) (p := { p with stage := stage }) rfl hinputs]
  simp only [fetchMainLoop, hstage, runFetched]

section
variable {v : State} (p : PassPosition)

theorem step_poll (hinputs : v.inputs = []) :
    step (atStage v p .poll) = .next (atStage (pollDeadline cfg p.ts v) p .pop) := by
  cases hlate : expired v.atBus.deadline p.ts with
  | false =>
    rw [step_skipped hinputs (by simp [stageInstr, atStage, hlate]), pollDeadline, if_neg (by simp [hlate])]
    rfl
  | true =>
    have hstage : stageInstr cfg { p with stage := .poll } (atStage v p .poll) =
        some (if v.atBus.st.isFrameReceive then .rxTimeout p.ts else .txTimeout p.ts) := by
      rw [apply_ite some]
      exact if_pos hlate
    rw [step_ran hinputs hstage (exec_poll (s := atStage v p .poll) hlate), atStage, pollDeadline_withPass]
    rfl

/-- With nothing to pop the place after step 1 is the load. -/
theorem step_pop_not_ready (hinputs : v.inputs = []) (h : v.xtBus.st ≠ .idle ∨ v.xtPending ≠ [] ∨ v.q = []) :
    step (atStage v p .pop) = .next (atStage (popAndTranslate cfg v) p .load) := by
  have hstage : stageInstr cfg { p with stage := .pop } (atStage v p .pop) = none :=
    if_neg fun ⟨hidle, hpending, hq⟩ => h.elim (· hidle) fun h => h.elim (· hpending) hq
  rw [step_skipped hinputs hstage, popAndTranslate_not_ready h]
  rfl

theorem step_pop_ready {f : Frame} {rest : List Frame} (hinputs : v.inputs = []) (hidle : v.xtBus.st = .idle)
    (hpending : v.xtPending = []) (hq : v.q = f :: rest) :
    step (atStage v p .pop) = .next (atStage ((v.withQ rest).withRet (.frame f)) p .translate) := by
  have hstage : stageInstr cfg { p with stage := .pop } (atStage v p .pop) = some .qPop :=
    if_pos ⟨hidle, hpending, by simp [atStage, hq]⟩
  rw [step_ran hinputs hstage (exec_qPop_of_cons hq)]
  rfl

/-- The output of the translation becomes `xt_pending`, and `ret` is what it was before the Frame stood there (R226). -/
theorem afterStage_translated {t : State} {f : Frame} {x : Option PassPosition} {xs : List Byte} (h : t.ret = .nothing) :
    afterStage true { p with stage := .translate } (((t.withRet (.frame f)).withPass x).withRet (.bytes xs)) =
      atStage (t.withXtPending xs) p .load := by
  conv_rhs => rw [← State.withRet_self h]
  rfl

theorem step_translatePopped {f : Frame} (hinputs : v.inputs = []) (hret : v.ret = .nothing) :
    step (atStage (v.withRet (.frame f)) p .translate) =
      .next (atStage ((translate cfg f.payload v).2.withXtPending (translate cfg f.payload v).1) p .load) := by
  have hexec := exec_selectTranslation f.payload (atStage (v.withRet (.frame f)) p .translate)
  rw [atStage, translate_withRet_withPass] at hexec
  rw [step_ran (v := v.withRet (.frame f)) hinputs rfl hexec]
  exact congrArg Host.Outcome.next (afterStage_translated p ((keeps_translate v f.payload).ret.trans hret))

theorem step_load (hinputs : v.inputs = []) :
    step (atStage v p .load) = .next (atStage (loadPending v) p .xtStep) := by
  cases hpending : v.xtPending with
  | nil =>
    rw [loadPending_not_ready (.inr hpending), step_skipped hinputs (by simp [stageInstr, atStage, hpending])]
    rfl
  | cons b rest =>
    by_cases hidle : v.xtBus.st = .idle
    · have hstage : stageInstr cfg { p with stage := .load } (atStage v p .load) = some (.xtLoad b) := by
        simp [stageInstr, atStage, hpending, hidle]
      have hloaded : (xtLoad b v).xtPending.tail = rest := by
        rw [xtLoad, if_pos hidle]
        exact congrArg List.tail hpending
      rw [loadPending_ready hidle hpending, step_ran hinputs hstage (exec_xtLoad b _), atStage, xtLoad_withPass, ← hloaded]
      rfl
    · rw [loadPending_not_ready (.inl hidle), step_skipped hinputs (by simp [stageInstr, atStage, hpending, hidle])]
      rfl

theorem step_xtStep (hinputs : v.inputs = []) :
    step (atStage v p .xtStep) = .next (atStage (xtStep cfg p.xtClk p.ts v) p .service) := by
  by_cases hidle : v.xtBus.st = .idle
  · have hstage : stageInstr cfg { p with stage := .xtStep } (atStage v p .xtStep) = none := if_pos hidle
    rw [xtStep_idle p.xtClk hidle, step_skipped hinputs hstage]
    rfl
  · have hstage : stageInstr cfg { p with stage := .xtStep } (atStage v p .xtStep) = some (.xtStep p.xtClk p.ts) :=
      if_neg hidle
    rw [step_ran hinputs hstage (exec_xtStep p.xtClk p.ts _), atStage, xtStep_withPass]
    rfl

theorem step_service {w : State} (hinputs : v.inputs = []) (h : brService cfg p.atClk p.ts v = some w) :
    step (atStage v p .service) = .next (atStage w p .sleep) := by
  have hservice : exec (.brService p.atClk p.ts) (atStage v p .service) = .next (atStage w p .service) := by
    rw [exec_brService, atStage, brService_withPass, h]
    rfl
  rw [step_ran hinputs rfl hservice]
  rfl

theorem step_service_refused (hinputs : v.inputs = []) (h : brService cfg p.atClk p.ts v = none) :
    step (atStage v p .service) = .refused .reportWithoutCommand := by
  have hservice : exec (.brService p.atClk p.ts) (atStage v p .service) = .refused .reportWithoutCommand := by
    rw [exec_brService, atStage, brService_withPass, h]
    rfl
  rw [step_loop (s := atStage v p .service) (p := { p with stage := .service }) rfl hinputs]
  change runFetched exec (.run (.brService p.atClk p.ts) _ (atStage v p .service)) = _
  simp only [runFetched, hservice]

theorem step_sleep (hinputs : v.inputs = []) (hpass : v.pass = none) :
    step (atStage v p .sleep) = .next (goToSleep v) := by
  rw [step_skipped hinputs rfl]
  exact congrArg Host.Outcome.next (State.withPass_self (s := goToSleep v) hpass)

end

/-! ### The run of a pass -/

theorem run_refused {n : Nat} {s : State} {r : Refusal} (h : step s = .refused r) :
    Host.Core.run Sys2Proof.core (n + 1) s = .refused r := by
  have hcore : Sys2Proof.core.step s = .refused r := h
  simp only [Host.Core.run, hcore]

/-- With no input and no pass under way nothing happens. -/
theorem run_noInput {s : State} (hpass : s.pass = none) (hinputs : s.inputs = []) :
    ∀ n, Host.Core.run Sys2Proof.core n s = .next s
  | 0 => rfl
  | n + 1 => (run_next (step_noInput hpass hinputs)).trans (run_noInput hpass hinputs n)

section
variable {v : State} (p : PassPosition) (n : Nat)

/-- From the service on: the report is served, or refused (V9, log 9), and the loop decides whether it sleeps. -/
theorem run_service (hpass : v.pass = none) (hinputs : v.inputs = []) :
    Host.Core.run Sys2Proof.core (n + 2) (atStage v p .service) =
      serviced ((brService cfg p.atClk p.ts v).map goToSleep) := by
  cases hserved : brService cfg p.atClk p.ts v with
  | none => exact run_refused (step_service_refused p hinputs hserved)
  | some w =>
    have hkeep := keeps_brService hserved
    rw [run_next (step_service p hinputs hserved),
      run_next (step_sleep p (hkeep.inputs.trans hinputs) (hkeep.pass.trans hpass))]
    exact run_noInput (s := goToSleep w) (hkeep.pass.trans hpass) (hkeep.inputs.trans hinputs) n

/-- From the load on. -/
theorem run_load (hpass : v.pass = none) (hinputs : v.inputs = []) :
    Host.Core.run Sys2Proof.core (n + 4) (atStage v p .load) =
      serviced ((brService cfg p.atClk p.ts (xtStep cfg p.xtClk p.ts (loadPending v))).map goToSleep) := by
  have hloaded := keeps_loadPending v
  have hstepped := hloaded.trans (keeps_xtStep (loadPending v) p.ts p.xtClk)
  rw [run_next (step_load p hinputs), run_next (step_xtStep p (hloaded.inputs.trans hinputs))]
  exact run_service p n (hstepped.pass.trans hpass) (hstepped.inputs.trans hinputs)

/-- From step 1 on: a Frame is popped and translated in two steps, or passed over in one (R226). -/
theorem run_pop (hpass : v.pass = none) (hinputs : v.inputs = []) (hret : v.ret = .nothing) :
    Host.Core.run Sys2Proof.core 6 (atStage v p .pop) =
      serviced ((brService cfg p.atClk p.ts (xtStep cfg p.xtClk p.ts (loadPending (popAndTranslate cfg v)))).map
        goToSleep) := by
  have hpopped := keeps_popAndTranslate v
  have hrest (k : Nat) := run_load p k (hpopped.pass.trans hpass) (hpopped.inputs.trans hinputs)
  by_cases hready : v.xtBus.st = .idle ∧ v.xtPending = [] ∧ v.q ≠ []
  · obtain ⟨hidle, hpending, hqueued⟩ := hready
    obtain ⟨f, rest, hq⟩ := List.exists_cons_of_ne_nil hqueued
    rw [run_next (step_pop_ready p hinputs hidle hpending hq),
      run_next (step_translatePopped (v := v.withQ rest) p hinputs hret), ← popAndTranslate_ready hidle hpending hq]
    exact hrest 0
  · rw [run_next (step_pop_not_ready p hinputs (by simpa only [not_and_or, not_not] using hready))]
    exact hrest 1

end

/-- Settles O49: each step of the interruptible pass is the next step of the whole one. -/
theorem passRunsAsItsOperations : Obligations.PassRunsAsItsOperations := by
  intro atClk atData xtClk ts s hawake hpass hret hinputs
  have hpolled := keeps_pollDeadline s ts
  let p : PassPosition := ⟨.poll, atClk, atData, xtClk, ts⟩
  rw [exec_dispatchPass, dispatchPass_awake hawake]
  exact (run_next (step_poll p hinputs)).trans
    (run_pop p (hpolled.pass.trans hpass) (hpolled.inputs.trans hinputs) (hpolled.ret.trans hret))

end Sys2Proof.Machine
end
